-- ==== Sys2Proof/Word.lean ====
section
/-! DEFINITION. The bit vectors the spec treats as bits: bytes, event words, segment patterns, digit-select lines. -/

namespace Sys2Proof

/-- A byte: a character, a received or transmitted byte, a bus condition code (00_scope.md R8). -/
abbrev Byte := BitVec 8

/-- An event word `ev[17:0]` (30_encoding.md R81). -/
abbrev EventWord := BitVec 18

/-- A segment pattern: bit 0 = a to bit 6 = g, 1 = illuminated (30_encoding.md R83). -/
abbrev Pattern := BitVec 7

/-- The digit-select lines: bit `p` is 1 when digit position `p + 1` is active (30_encoding.md R83). -/
abbrev DigitLines := BitVec 4

end Sys2Proof
end

