-- ==== Sys2Proof/Config.lean ====
section
/-! DEFINITION. What an implementation fixes (00_scope.md R6, R7) and the free values (00_scope.md R9, `draw`). -/

namespace Sys2Proof

/-- `CAPACITY`: the number of cells of the DisplayBuffer (00_scope.md R6). -/
abbrev capacity : Nat := 50

/-- `NDIGITS`: the digit positions, and the width of the window (00_scope.md R6). -/
abbrev numDigits : Nat := 4

/-- `TERM_THRESHOLD`: a received byte below it is a terminator (00_scope.md R6). -/
abbrev termThreshold : Nat := 0x20

/-- The parameter `READ_START` (00_scope.md R7, decision D5). -/
inductive ReadStart where
  | inherit
  | zero
deriving DecidableEq, Repr

/-- The open parameters of 00_scope.md R7. `SEG` is the table of the bytes it does not blank: with 41_digit_mux.md R147's supported set
finite, every `SEG` the rule admits is such a table. The periods are read by no rule; their unit is the reader's. -/
structure Config where
  slaveAddr : BitVec 7
  greeting : List Byte
  segTable : List (Byte × Pattern)
  hasDp : Bool
  readStart : ReadStart
  stopCommitsLength : Bool
  refreshPeriod : Nat
  scrollPeriod : Nat
deriving DecidableEq, Repr

/-- FREE VALUE. The `n`-th draw of a byte: `TxByte` past cell 49 and `txData` at reset (20_memory.md R53, 10_state.md R32; log entry 4). -/
opaque Config.freeByte : Nat → Byte

/-- FREE VALUE. What cell `i` holds after the reset numbered `epoch`, where the greeting gives it nothing (10_state.md R21; log entry 3). -/
opaque Config.freeCell : Nat → Nat → Byte

/-- FREE VALUE. Which tick operation moves when both are in flight and the schedule names neither (20_memory.md R60; log entry 6). -/
opaque Config.freeMuxFirst : Nat → Bool

/-- Left to the implementation: the slave address of the device that `State.reset` describes (00_scope.md R7; log entry 2). -/
opaque Config.deviceAddr : BitVec 7

/-- Left to the implementation: the bytes the device's greeting is made from (00_scope.md R7; log entry 2). -/
opaque Config.deviceGreetingBytes : List Byte

/-- Left to the implementation: the device's refresh period (00_scope.md R7, decision D24; log entry 2). -/
opaque Config.deviceRefreshPeriod : Nat

/-- Left to the implementation: the device's scroll period (00_scope.md R7, decision D24; log entry 2). -/
opaque Config.deviceScrollPeriod : Nat

end Sys2Proof
end

