-- ==== Sys2Proof/Syntax.lean ====
section
/-! DEFINITION. The events of the block, the rows of spec/opcode_table.json, as one inductive; and the agents that react to them. -/

namespace Sys2Proof

/-- The eleven events of 30_encoding.md R84, in the table's decode order. Bits an event ignores are no operands (R81, R82). -/
inductive Instr where
  /-- `SLA_W`: address match for an incoming write. -/
  | slaW
  /-- `DATA_RX.TERM`: data byte received, `d < 0x20`. -/
  | dataRxTerm (d : Byte)
  /-- `DATA_RX.CHAR`: data byte received, `d >= 0x20`. -/
  | dataRxChar (d : Byte)
  /-- `STOP_RSTART`: STOP or repeated START. -/
  | stopRstart
  /-- `SLA_R`: address match for an outgoing read. -/
  | slaR
  /-- `DATA_TX_ACK`: byte transmitted and acknowledged. -/
  | dataTxAck
  /-- `DATA_TX_NACK`: byte transmitted, not acknowledged. -/
  | dataTxNack
  /-- `BUS_OTHER`: a bus event whose code is none of the six of R86; the code is kept, so that the encoding is. -/
  | busOther (cc : Byte)
  /-- `TICK_REFRESH`: a refresh tick. -/
  | tickRefresh
  /-- `TICK_SCROLL`: a scroll tick. -/
  | tickScroll
  /-- `RESET`. -/
  | reset
deriving DecidableEq, Repr

/-- The agents of 00_scope.md's glossary: the three state machines and the environment (30_encoding.md R82, R84). -/
inductive Agent where
  | bus
  | mux
  | scroll
  | env
deriving DecidableEq, Repr

end Sys2Proof
end

