-- ==== Sys2Proof/WellFormed.lean ====
section
/-! DEFINITION. Which terms of `Instr` are events of 30_encoding.md R84: the operand ranges of its table. -/

namespace Sys2Proof

/-- The six recognised bus condition codes (30_encoding.md R86). PRESUMED by the spec from the ATmega328P's status codes (its G2;
log entry 10). -/
def recognisedCode (cc : Byte) : Bool :=
  cc == 0x60#8 || cc == 0x80#8 || cc == 0xA0#8 || cc == 0xA8#8 || cc == 0xB8#8 || cc == 0xC0#8

/-- The operand ranges of 30_encoding.md R84's rows: `TERM` has `d < 0x20`, `CHAR` has `d >= 0x20`, `BUS_OTHER` a code that is not
recognised; the other events have no operand. -/
def Instr.wf : Instr → Bool
  | .slaW => true
  | .dataRxTerm d => decide (d.toNat < 0x20)
  | .dataRxChar d => decide (0x20 ≤ d.toNat)
  | .stopRstart => true
  | .slaR => true
  | .dataTxAck => true
  | .dataTxNack => true
  | .busOther cc => !recognisedCode cc
  | .tickRefresh => true
  | .tickScroll => true
  | .reset => true

end Sys2Proof
end

