-- ==== Sys2Proof/Decode.lean ====
section
/-! DEFINITION. Decoding an event word and encoding an event (30_encoding.md R81 to R89; log entry 10). -/

namespace Sys2Proof

/-- Field `src = ev[17:16]` (30_encoding.md R81). -/
def evSrc (ev : EventWord) : BitVec 2 := ev.extractLsb' 16 2

/-- Field `cc = ev[15:8]` (30_encoding.md R81). -/
def evCode (ev : EventWord) : Byte := ev.extractLsb' 8 8

/-- Field `d = ev[7:0]` (30_encoding.md R81). -/
def evData (ev : EventWord) : Byte := ev.extractLsb' 0 8

/-- The word with fields `src`, `cc`, `d` (30_encoding.md R81). -/
def evWord (src : BitVec 2) (cc d : Byte) : EventWord := src.setWidth 18 <<< 16 ||| cc.setWidth 18 <<< 8 ||| d.setWidth 18

/-- The terminator test `d < 0x20`, unsigned (00_scope.md R10, decision D11). -/
def isTerminator (d : Byte) : Bool := decide (d.toNat < termThreshold)

/-- The event of the bus condition `cc` with byte `d`: rows 1 to 8 of 30_encoding.md R84. -/
def decodeBus (cc d : Byte) : Instr :=
  if cc = 0x60#8 then .slaW
  else if cc = 0x80#8 then (if isTerminator d then .dataRxTerm d else .dataRxChar d)
  else if cc = 0xA0#8 then .stopRstart
  else if cc = 0xA8#8 then .slaR
  else if cc = 0xB8#8 then .dataTxAck
  else if cc = 0xC0#8 then .dataTxNack
  else .busOther cc

/-- Decoding is total: every 18-bit word is an event (30_encoding.md R85); it reads no state (R88). -/
def decode (ev : EventWord) : Instr :=
  if evSrc ev = 0b00#2 then decodeBus (evCode ev) (evData ev)
  else if evSrc ev = 0b01#2 then .tickRefresh
  else if evSrc ev = 0b10#2 then .tickScroll
  else .reset

/-- The canonical word of an event: the bits it ignores are 0 (30_encoding.md R81, R90). -/
def encode : Instr → EventWord
  | .slaW => evWord 0b00#2 0x60#8 0#8
  | .dataRxTerm d => evWord 0b00#2 0x80#8 d
  | .dataRxChar d => evWord 0b00#2 0x80#8 d
  | .stopRstart => evWord 0b00#2 0xA0#8 0#8
  | .slaR => evWord 0b00#2 0xA8#8 0#8
  | .dataTxAck => evWord 0b00#2 0xB8#8 0#8
  | .dataTxNack => evWord 0b00#2 0xC0#8 0#8
  | .busOther cc => evWord 0b00#2 cc 0#8
  | .tickRefresh => evWord 0b01#2 0#8 0#8
  | .tickScroll => evWord 0b10#2 0#8 0#8
  | .reset => evWord 0b11#2 0#8 0#8

/-- The agent that reacts to an event (30_encoding.md R82, R84; the table gives RESET to the environment). -/
def agentOf : Instr → Agent
  | .slaW => .bus
  | .dataRxTerm _ => .bus
  | .dataRxChar _ => .bus
  | .stopRstart => .bus
  | .slaR => .bus
  | .dataTxAck => .bus
  | .dataTxNack => .bus
  | .busOther _ => .bus
  | .tickRefresh => .mux
  | .tickScroll => .scroll
  | .reset => .env

/-- The `src` value that selects an agent (30_encoding.md R82). -/
def srcOf : Agent → BitVec 2
  | .bus => 0b00#2
  | .mux => 0b01#2
  | .scroll => 0b10#2
  | .env => 0b11#2

/-- Why a number is no event word. -/
inductive DecodeError where
  /-- The number has a bit above bit 17: an event is an 18-bit word (30_encoding.md R81). -/
  | notAnEventWord
deriving DecidableEq, Repr

/-- Decoding a number: rejected by name unless it is an 18-bit word. -/
def decodeNat (w : Nat) : Except DecodeError Instr :=
  if w < 2 ^ 18 then .ok (decode (BitVec.ofNat 18 w)) else .error .notAnEventWord

/-- What the decoder reads from the table word `w` of `nbits` bits; the bits above `nbits` are 0. The event port has no bytes and no byte
order (20_memory.md R57): the table's bit 0 is bit 0 of the event word. -/
def decodeTableWord (nbits w : Nat) : Option Instr :=
  match decodeNat (w % 2 ^ nbits) with
  | .ok i => some i
  | .error _ => none

/-! Every row's decoding on a word written out from 30_encoding.md R84 and R85: `src`, `cc`, `d` bit by bit. -/

theorem decode_word_slaW : decode 0b00_01100000_00000000#18 = .slaW := by decide
theorem decode_word_dataRxTerm : decode 0b00_10000000_00001010#18 = .dataRxTerm 0x0A#8 := by decide
theorem decode_word_dataRxChar : decode 0b00_10000000_01101000#18 = .dataRxChar 0x68#8 := by decide
theorem decode_word_stopRstart : decode 0b00_10100000_00000000#18 = .stopRstart := by decide
theorem decode_word_slaR : decode 0b00_10101000_00000000#18 = .slaR := by decide
theorem decode_word_dataTxAck : decode 0b00_10111000_00000000#18 = .dataTxAck := by decide
theorem decode_word_dataTxNack : decode 0b00_11000000_00000000#18 = .dataTxNack := by decide
theorem decode_word_busOther : decode 0b00_10001000_00000000#18 = .busOther 0x88#8 := by decide
theorem decode_word_tickRefresh : decode 0b01_00000000_00000000#18 = .tickRefresh := by decide
theorem decode_word_tickScroll : decode 0b10_00000000_00000000#18 = .tickScroll := by decide
theorem decode_word_reset : decode 0b11_00000000_00000000#18 = .reset := by decide

end Sys2Proof
end

