-- ==== Sys2Proof/Machine/Device.lean ====
section
/-! DEFINITION. The parameters' constraints, the Segment Encoder, the default table, the device that `State.reset` describes, and the
reset values the spec gives the registers (its own choice, decision D18; log entry 11). -/

namespace Sys2Proof.Machine

/-- The blank pattern: no segment illuminated (30_encoding.md R83). -/
def blankPattern : Pattern := 0b0000000#7

/-- The blank character (20_memory.md R54, decision D13). -/
def blankChar : Byte := 0x20#8

/-- The Segment Encoder `SEG`: the table's pattern, blank for a byte the table does not give (41_digit_mux.md R146, R147). -/
def segOf (c : Config) (b : Byte) : Pattern := (c.segTable.lookup b).getD blankPattern

/-- The supported set of 41_digit_mux.md R147 (d): digits, letters (which of them is left to `SEG`), space, underscore, equals sign. -/
def supportedChar (b : Byte) : Bool :=
  (decide (0x30 ≤ b.toNat) && decide (b.toNat ≤ 0x39)) || (decide (0x41 ≤ b.toNat) && decide (b.toNat ≤ 0x5A))
    || (decide (0x61 ≤ b.toNat) && decide (b.toNat ≤ 0x7A)) || b == 0x20#8 || b == 0x5F#8 || b == 0x3D#8

/-- The constraints on the parameters: 00_scope.md R7 (greeting) and 41_digit_mux.md R147 (`SEG`). -/
def configWf (c : Config) : Bool :=
  decide (c.greeting.length ≤ capacity) && c.greeting.all (fun b => decide (termThreshold ≤ b.toNat))
    && c.segTable.all (fun e => supportedChar e.1) && segOf c blankChar == blankPattern

/-- The default table of 41_digit_mux.md R148 (glyphs PRESUMED by the spec, its G9). -/
def defaultSegTable : List (Byte × Pattern) :=
  [(0x30#8, 0x3F#7), (0x31#8, 0x06#7), (0x32#8, 0x5B#7), (0x33#8, 0x4F#7), (0x34#8, 0x66#7), (0x35#8, 0x6D#7), (0x36#8, 0x7D#7),
   (0x37#8, 0x07#7), (0x38#8, 0x7F#7), (0x39#8, 0x6F#7), (0x20#8, 0x00#7), (0x5F#8, 0x08#7), (0x3D#8, 0x48#7)]

/-- A list of bytes brought into the form 00_scope.md R7 asks of `GREETING`: only bytes `>= 0x20`, at most 50 of them. Every admitted
greeting is its own image. -/
def greetingOf (bytes : List Byte) : List Byte := (bytes.filter (fun b => decide (termThreshold ≤ b.toNat))).take capacity

/-- The device that `State.reset` describes: R7's defaults where 00_scope.md R7 gives one, and constants nothing can evaluate where it
says `none, open` (log entry 2). -/
def deviceConfig : Config where
  slaveAddr := Config.deviceAddr
  greeting := greetingOf Config.deviceGreetingBytes
  segTable := defaultSegTable
  hasDp := false
  readStart := .inherit
  stopCommitsLength := false
  refreshPeriod := Config.deviceRefreshPeriod
  scrollPeriod := Config.deviceScrollPeriod

/-- `pos` after reset (10_state.md R28, decision D18). -/
def resetPos : Fin 4 := 3

/-- `digitSel` after reset (10_state.md R29, decision D18). -/
def resetDigitSel : DigitLines := 0b1000#4

/-- `writeIndex` after reset (10_state.md R24, decision D18). -/
def resetWriteIndex : Nat := 0

/-- `readIndex` after reset (10_state.md R26, decision D18). -/
def resetReadIndex : Nat := 0

/-- `dp` after reset, and always (10_state.md R30, 41_digit_mux.md R149). -/
def darkDp : BitVec 1 := 0#1

/-- `ackEn` after reset, and always (10_state.md R32, decision D10). -/
def ackAlways : BitVec 1 := 1#1

end Sys2Proof.Machine
end

