-- ==== Sys2Proof/Machine/State.lean ====
section
/-! DEFINITION. The machine's state as plain data: 10_state.md R20 and R36, the configuration, and the environment's next choices; the
reset state (R39); the faults and refusals. -/

namespace Sys2Proof.Machine

/-- The protocol state `proto` (10_state.md R27). -/
inductive Proto where
  | idle
  | receivingWrite
  | transmittingRead
deriving DecidableEq, Repr

/-- The refresh operation in flight (10_state.md R36): the constructor is `mStep`, its arguments are the values sampled so far. -/
inductive MuxOp where
  /-- `mStep = idle`. -/
  | idle
  /-- `mStep = 1`: M1 done. -/
  | m1
  /-- `mStep = 2`: `mW` sampled. -/
  | m2 (mW : Nat)
  /-- `mStep = 3`: `mW`, `mL` sampled. -/
  | m3 (mW mL : Nat)
  /-- `mStep = 4`: `mW`, `mL` sampled, `mC` fetched. -/
  | m4 (mW mL : Nat) (mC : Byte)
deriving DecidableEq, Repr

/-- The scroll operation in flight (10_state.md R36): the constructor is `sStep`, its arguments are the values sampled so far. -/
inductive ScrollOp where
  /-- `sStep = idle`. -/
  | idle
  /-- `sStep = 1`: `sL` sampled. -/
  | s1 (sL : Nat)
  /-- `sStep = 2`: `sL`, `sW` sampled. -/
  | s2 (sL sW : Nat)
deriving DecidableEq, Repr

/-- One choice of the environment, a kind of step of 20_memory.md R60: `bus`, `tickR`, `tickS` and `reset` deliver an event word;
`muxStep` and `scrollStep` let a tick operation in flight take its next step. -/
inductive Input where
  | event (ev : EventWord)
  | muxStep
  | scrollStep
deriving DecidableEq, Repr

/-- The cells that differ from the reset contents, as (index, byte) pairs in the canonical form of `Memory.wf`. -/
abbrev Memory := List Host.Cell

/-- The state of 10_state.md R20 and R36, the configuration (changed by no step), and the model's own `inputs`, `draws`, `epoch`. -/
structure State where
  /-- The parameters of 00_scope.md R7; no step changes them (log entry 1). -/
  cfg : Config
  /-- `buf` (10_state.md R21). -/
  mem : Memory
  /-- `length` (10_state.md R22). -/
  length : Nat
  /-- `windowOffset` (10_state.md R23). -/
  windowOffset : Nat
  /-- `writeIndex` (10_state.md R24). -/
  writeIndex : Nat
  /-- `rxClosed` (10_state.md R25). -/
  rxClosed : Bool
  /-- `readIndex`, unbounded (10_state.md R26). -/
  readIndex : Nat
  /-- `proto` (10_state.md R27). -/
  proto : Proto
  /-- `pos` (10_state.md R28). -/
  pos : Fin 4
  /-- `digitSel` (10_state.md R29). -/
  digitSel : DigitLines
  /-- `seg` (10_state.md R30). -/
  seg : Pattern
  /-- `dp`, an output only if `HAS_DP` (10_state.md R30). -/
  dp : BitVec 1
  /-- `txData` (10_state.md R32). -/
  txData : Byte
  /-- `ackEn` (10_state.md R32). -/
  ackEn : BitVec 1
  /-- `mStep`, `mW`, `mL`, `mC` (10_state.md R36). -/
  mux : MuxOp
  /-- `sStep`, `sL`, `sW` (10_state.md R36). -/
  scroll : ScrollOp
  /-- MODEL'S OWN: the environment's next choices, first one next (log entry 5). -/
  inputs : List Input
  /-- MODEL'S OWN: the number of the next free value (log entry 4). -/
  draws : Nat
  /-- MODEL'S OWN: the number of the draw that the unspecified cells of the last reset come from (log entry 3). -/
  epoch : Nat
deriving DecidableEq, Repr

/-- What stops the machine. The block has no fault of its own (60_exceptions.md R190). -/
inductive Fault where
  /-- Raised by step M4 of a refresh operation that would evaluate `buf[i]` at an `i >= 50`, which 20_memory.md R52 does not define; R66
  shows that no run from reset does (log entry 8). SAFE: the machine stops where the spec says nothing. -/
  | noSuchCell (index : Nat)
deriving DecidableEq, Repr

/-- What the model gives no meaning. -/
inductive Refusal where
  /-- Raised by an arm of `exec` that has no meaning yet; no arm has none. SAFE. -/
  | notModelled (mnemonic : String)
  /-- Raised by a `TICK_REFRESH` delivered while `mStep` is not idle: 60_exceptions.md R181 gives an overrun no meaning
  (log entry 7). SAFE. -/
  | refreshOverrun
  /-- Raised by a `TICK_SCROLL` delivered while `sStep` is not idle: 60_exceptions.md R181 gives an overrun no meaning
  (log entry 7). SAFE. -/
  | scrollOverrun
deriving DecidableEq, Repr

/-- The state after reset (10_state.md R39) of a device with the parameters `c`, with the unspecified byte and cells taken from draw `n`
and with the environment's choices `xs` to come. -/
def State.resetFrom (c : Config) (n : Nat) (xs : List Input) : State where
  cfg := c
  mem := []
  length := c.greeting.length
  windowOffset := 0
  writeIndex := resetWriteIndex
  rxClosed := false
  readIndex := resetReadIndex
  proto := .idle
  pos := resetPos
  digitSel := resetDigitSel
  seg := blankPattern
  dp := darkDp
  txData := Config.freeByte n
  ackEn := ackAlways
  mux := .idle
  scroll := .idle
  inputs := xs
  draws := n + 1
  epoch := n

/-- The state after power-up of a device with the parameters `c`, with nothing scheduled. -/
def State.resetWith (c : Config) : State := State.resetFrom c 0 []

/-- The machine right after reset (10_state.md R39), of the device of `deviceConfig`. -/
def State.reset : State := State.resetWith deviceConfig

end Sys2Proof.Machine
end

