-- ==== Sys2Proof/Machine/Ops.lean ====
section
/-! DEFINITION. The named operations over the buffer and the registers that the meanings share. The block raises no exception and saves
nothing on the entry of an event (60_exceptions.md R180, R190), so there is no exception entry and no return among them. -/

namespace Sys2Proof.Machine

/-- The byte a listed address holds. -/
def Memory.lookup : Memory → Nat → Option Byte
  | [], _ => none
  | (a, v) :: m, i => if a = i then some v else Memory.lookup m i

/-- The list without an entry at `i`. -/
def Memory.erase : Memory → Nat → Memory
  | [], _ => []
  | (a, v) :: m, i => if a = i then m else (a, v) :: Memory.erase m i

/-- The list with the entry `(i, v)`, in rising order of address. -/
def Memory.insert : Memory → Nat → Byte → Memory
  | [], i, v => [(i, v)]
  | (a, w) :: m, i, v =>
    if i < a then (i, v) :: (a, w) :: m
    else if i = a then (i, v) :: m
    else (a, w) :: Memory.insert m i v

/-- What an unlisted address reads as: the reset contents where 10_state.md R21 gives them, the greeting's byte; else no value of the
memory's own (the read of a cell supplies the free value). -/
def Memory.unlisted (greeting : List Byte) (i : Nat) : Option Byte := greeting[i]?

/-- The value of address `i`, if the memory or the greeting has one. -/
def Memory.read (greeting : List Byte) (m : Memory) (i : Nat) : Option Byte :=
  match Memory.lookup m i with
  | some v => some v
  | none => Memory.unlisted greeting i

/-- The memory after `v` is stored at `i`: writing what an unlisted address reads as removes the entry. -/
def Memory.write (greeting : List Byte) (m : Memory) (i : Nat) (v : Byte) : Memory :=
  if Memory.unlisted greeting i = some v then Memory.erase m i else Memory.insert m i v

/-- Every address of the list is above `lo`, below the capacity, rising, and no entry is what an unlisted address reads as. -/
def Memory.wfFrom (greeting : List Byte) : Nat → Memory → Bool
  | _, [] => true
  | lo, (a, v) :: m =>
    decide (lo ≤ a) && decide (a < capacity) && decide (Memory.unlisted greeting a ≠ some v) && Memory.wfFrom greeting (a + 1) m

/-- The canonical form of the buffer: addresses strictly rising and below 50, no entry equal to what an unlisted address reads as. -/
def Memory.wf (greeting : List Byte) (m : Memory) : Bool := Memory.wfFrom greeting 0 m

/-- The content of cell `i`: the byte last stored, else its reset value, the greeting's byte or a free value fixed at the last reset
(10_state.md R21, 20_memory.md R52). -/
def State.cell (s : State) (i : Nat) : Byte := (Memory.read s.cfg.greeting s.mem i).getD (Config.freeCell s.epoch i)

/-- The cell read `buf[i]`, defined for `i < 50` (20_memory.md R52). -/
def State.cell? (s : State) (i : Nat) : Option Byte := if i < capacity then some (s.cell i) else none

/-- The store `buf[i] <- v` (20_memory.md R51). -/
def State.storeCell (s : State) (i : Nat) (v : Byte) : State := { s with mem := Memory.write s.cfg.greeting s.mem i v }

/-- The length commit `length <- writeIndex; windowOffset <- 0` of 40_bus_slave.md R103 and R108. -/
def State.commitLength (s : State) : State := { s with length := s.writeIndex, windowOffset := 0 }

/-- `proto <- p`. -/
def State.enter (s : State) (p : Proto) : State := { s with proto := p }

/-- One free value used: the next draw has the next number. -/
def State.drawn (s : State) : State := { s with draws := s.draws + 1 }

/-- `onehot4(p)`: the 4-bit value whose only set bit is bit `p` (00_scope.md R9). -/
def onehot4 (p : Fin 4) : DigitLines := 1#4 <<< p.val

/-- `(pos + 1) mod 4` (41_digit_mux.md R142). -/
def nextPos (p : Fin 4) : Fin 4 := ⟨(p.val + 1) % 4, Nat.mod_lt _ (by decide)⟩

/-- `ScrollNext(w, L)` (42_scroll.md R162). -/
def scrollNext (w l : Nat) : Nat := if l ≤ 4 then 0 else if l ≤ w + 1 + 3 then 0 else w + 1

/-- No refresh operation is in flight: `mStep = idle`. -/
def MuxOp.isIdle : MuxOp → Bool
  | .idle => true
  | .m1 => false
  | .m2 _ => false
  | .m3 _ _ => false
  | .m4 _ _ _ => false

/-- No scroll operation is in flight: `sStep = idle`. -/
def ScrollOp.isIdle : ScrollOp → Bool
  | .idle => true
  | .s1 _ => false
  | .s2 _ _ => false

end Sys2Proof.Machine
end

