-- ==== Sys2Proof/Machine/Flags.lean ====
section
/-! DEFINITION. The one flag of the block, `rxClosed` (10_state.md R25): what clears it, what sets it, what reads it. -/

namespace Sys2Proof.Machine

/-- `rxClosed <- false`, by `SLA_W` (40_bus_slave.md R101). -/
def State.openRx (s : State) : State := { s with rxClosed := false }

/-- `rxClosed <- true`, by a terminator (40_bus_slave.md R103). -/
def State.closeRx (s : State) : State := { s with rxClosed := true }

/-- `proto = ReceivingWrite and rxClosed = false`: the guard of `DATA_RX` (40_bus_slave.md R102, R103, R110). -/
def State.accepting (s : State) : Bool := decide (s.proto = .receivingWrite) && !s.rxClosed

end Sys2Proof.Machine
end

