-- ==== Sys2Proof/Machine/Operands.lean ====
section
/-! DEFINITION. The operand forms: the transmit fetch, the display fetch, the start cursor of a read. -/

namespace Sys2Proof.Machine

/-- The transmit fetch `TxByte(i)`: the cell, or a draw when `i >= 50` (20_memory.md R53). -/
def txByte (s : State) (i : Nat) : Byte := if i < capacity then s.cell i else Config.freeByte s.draws

/-- `txData <- TxByte(i)`; a draw uses up one free value, so that two draws need not agree (00_scope.md R9, 20_memory.md R53). -/
def State.fetchTx (s : State) (i : Nat) : State :=
  { s with txData := txByte s i, draws := if i < capacity then s.draws else s.draws + 1 }

/-- The display fetch `VisibleChar(i, L)`: the cell if `i < L`, else the blank character (20_memory.md R54); `none` where it would read a
cell that does not exist. -/
def visibleChar (s : State) (i l : Nat) : Option Byte := if i < l then s.cell? i else some blankChar

/-- The start cursor of a read transaction (40_bus_slave.md R104, 10_state.md R26). -/
def readStartIndex (s : State) : Nat :=
  match s.cfg.readStart with
  | .inherit => s.writeIndex
  | .zero => 0

end Sys2Proof.Machine
end

