-- ==== Sys2Proof/Machine/Bus.lean ====
section
/-! DEFINITION. The Bus Slave Protocol family (40_bus_slave.md R101 to R109): each operation is one atomic step, and none faults. -/

namespace Sys2Proof.Machine

/-- `SLA_W` (40_bus_slave.md R101), in every protocol state (R111). -/
def execSlaW (s : State) : Host.Outcome State Fault Refusal :=
  .next { (s.enter .receivingWrite).openRx with writeIndex := 0, windowOffset := 0 }

/-- `DATA_RX.TERM` (40_bus_slave.md R103); the byte itself is not used. -/
def execDataRxTerm (_d : Byte) (s : State) : Host.Outcome State Fault Refusal :=
  .next (if s.accepting then s.commitLength.closeRx else s)

/-- `DATA_RX.CHAR` (40_bus_slave.md R102). -/
def execDataRxChar (d : Byte) (s : State) : Host.Outcome State Fault Refusal :=
  .next (if s.accepting && decide (s.writeIndex < capacity)
    then { s.storeCell s.writeIndex d with writeIndex := s.writeIndex + 1 } else s)

/-- `STOP_RSTART` (40_bus_slave.md R108). -/
def execStopRstart (s : State) : Host.Outcome State Fault Refusal :=
  .next ((if s.cfg.stopCommitsLength && s.accepting then s.commitLength else s).enter .idle)

/-- `SLA_R` (40_bus_slave.md R104), in every protocol state (R111). -/
def execSlaR (s : State) : Host.Outcome State Fault Refusal :=
  .next ({ s.enter .transmittingRead with readIndex := readStartIndex s }.fetchTx (readStartIndex s))

/-- `DATA_TX_ACK` (40_bus_slave.md R105). -/
def execDataTxAck (s : State) : Host.Outcome State Fault Refusal :=
  .next (if s.proto = .transmittingRead then { s with readIndex := s.readIndex + 1 }.fetchTx (s.readIndex + 1) else s)

/-- `DATA_TX_NACK` (40_bus_slave.md R106). -/
def execDataTxNack (s : State) : Host.Outcome State Fault Refusal :=
  .next (if s.proto = .transmittingRead then s.enter .idle else s)

/-- `BUS_OTHER` (40_bus_slave.md R109): nothing. -/
def execBusOther (_cc : Byte) (s : State) : Host.Outcome State Fault Refusal := .next s

end Sys2Proof.Machine
end

