-- ==== Sys2Proof/Machine/Mux.lean ====
section
/-! DEFINITION. The Digit Multiplexer family (41_digit_mux.md R141): `TICK_REFRESH` runs M1 when it is delivered; M2 to M5 are steps of
their own, between which a bus operation may fall (20_memory.md R60; the division is the spec's own, log entry 12). -/

namespace Sys2Proof.Machine

/-- `TICK_REFRESH`, step M1: the indivisible toggle (41_digit_mux.md R141, R142). An overrunning tick has no meaning (60_exceptions.md R181). -/
def execTickRefresh (s : State) : Host.Outcome State Fault Refusal :=
  if s.mux.isIdle then .next { s with pos := nextPos s.pos, digitSel := onehot4 (nextPos s.pos), mux := .m1 }
  else .refused .refreshOverrun

/-- `muxStep`: the next of M2, M3, M4, M5 (41_digit_mux.md R141). With no operation in flight the agent does nothing (60_exceptions.md R175). -/
def muxStep (s : State) : Host.Outcome State Fault Refusal :=
  match s.mux with
  | .idle => .next s
  | .m1 => .next { s with mux := .m2 s.windowOffset }
  | .m2 mW => .next { s with mux := .m3 mW s.length }
  | .m3 mW mL =>
    match visibleChar s (mW + s.pos.val) mL with
    | some c => .next { s with mux := .m4 mW mL c }
    | none => .fault (.noSuchCell (mW + s.pos.val))
  | .m4 _ _ mC => .next { s with seg := segOf s.cfg mC, mux := .idle }

end Sys2Proof.Machine
end

