-- ==== Sys2Proof/Machine/Reset.lean ====
section
/-! DEFINITION. `RESET` (70_reset_and_hazards.md R210). -/

namespace Sys2Proof.Machine

/-- `RESET`, one atomic step: every register, cell and temporary takes the value of 10_state.md R39; the unspecified cells and `txData` are
new free values. The configuration stays, and so do the environment's choices. -/
def execReset (s : State) : Host.Outcome State Fault Refusal := .next (State.resetFrom s.cfg s.draws s.inputs)

end Sys2Proof.Machine
end

