-- ==== Sys2Proof/Machine/Scroll.lean ====
section
/-! DEFINITION. The Scroll Controller family (42_scroll.md R161): `TICK_SCROLL` runs S1 when it is delivered; S2 and S3 are steps of
their own, between which a bus operation may fall (20_memory.md R60; the division is the spec's own, log entry 12). -/

namespace Sys2Proof.Machine

/-- `TICK_SCROLL`, step S1 (42_scroll.md R161). An overrunning tick has no meaning (60_exceptions.md R181). -/
def execTickScroll (s : State) : Host.Outcome State Fault Refusal :=
  if s.scroll.isIdle then .next { s with scroll := .s1 s.length } else .refused .scrollOverrun

/-- `scrollStep`: the next of S2, S3 (42_scroll.md R161). With no operation in flight the agent does nothing (60_exceptions.md R175). -/
def scrollStep (s : State) : Host.Outcome State Fault Refusal :=
  match s.scroll with
  | .idle => .next s
  | .s1 sL => .next { s with scroll := .s2 sL s.windowOffset }
  | .s2 sL sW => .next { s with windowOffset := scrollNext sW sL, scroll := .idle }

end Sys2Proof.Machine
end

