-- ==== Sys2Proof/Machine/Dispatch.lean ====
section
/-! DEFINITION. The meaning of each event of 30_encoding.md R84, one arm each. -/

namespace Sys2Proof.Machine

def exec (i : Instr) (s : State) : Host.Outcome State Fault Refusal :=
  match i with
  | .slaW => Sys2Proof.Machine.execSlaW s
  | .dataRxTerm d => Sys2Proof.Machine.execDataRxTerm d s
  | .dataRxChar d => Sys2Proof.Machine.execDataRxChar d s
  | .stopRstart => Sys2Proof.Machine.execStopRstart s
  | .slaR => Sys2Proof.Machine.execSlaR s
  | .dataTxAck => Sys2Proof.Machine.execDataTxAck s
  | .dataTxNack => Sys2Proof.Machine.execDataTxNack s
  | .busOther cc => Sys2Proof.Machine.execBusOther cc s
  | .tickRefresh => Sys2Proof.Machine.execTickRefresh s
  | .tickScroll => Sys2Proof.Machine.execTickScroll s
  | .reset => Sys2Proof.Machine.execReset s

end Sys2Proof.Machine
end

