-- ==== Sys2Proof/Machine/Deliver.lean ====
section
/-! DEFINITION. What one choice of the environment does (20_memory.md R60), and what the machine does when none is scheduled. -/

namespace Sys2Proof.Machine

/-- One step of 20_memory.md R60: an event word is decoded and its operation (or the first step of it) runs; or a tick operation in flight
takes its next step. -/
def deliver (x : Input) (s : State) : Host.Outcome State Fault Refusal :=
  match x with
  | .event ev => exec (decode ev) s
  | .muxStep => muxStep s
  | .scrollStep => scrollStep s

/-- With nothing scheduled, a tick operation in flight is resumed (60_exceptions.md R182, 20_memory.md R60); with both in flight a free value
says which moves; with none in flight the block does nothing (60_exceptions.md R175). -/
def undriven (s : State) : Host.Outcome State Fault Refusal :=
  if s.mux.isIdle then scrollStep s
  else if s.scroll.isIdle then muxStep s
  else if Config.freeMuxFirst s.draws then muxStep s.drawn
  else scrollStep s.drawn

/-- The state with the first scheduled choice taken off. -/
def State.taken (s : State) : State := { s with inputs := s.inputs.tail }

/-- The next state of an outcome goes on to `f`; a stop stays. -/
def andThen (o : Host.Outcome State Fault Refusal) (f : State → Host.Outcome State Fault Refusal) : Host.Outcome State Fault Refusal :=
  match o with
  | .next s => f s
  | .fault r => .fault r
  | .refused r => .refused r

/-- The choices of a list delivered one after another. -/
def deliverAll : List Input → State → Host.Outcome State Fault Refusal
  | [], s => .next s
  | x :: xs, s => andThen (deliver x s) (deliverAll xs)

/-- The event word of `nbits` bits numbered as the opcode table numbers them, put first among the environment's choices; a number that is
no event word cannot be put on the 18 lines of the event port and places nothing. -/
def State.present (s : State) (nbits w : Nat) : State :=
  if w % 2 ^ nbits < 2 ^ 18 then { s with inputs := .event (BitVec.ofNat 18 (w % 2 ^ nbits)) :: s.inputs } else s

end Sys2Proof.Machine
end

