-- ==== Sys2Proof/Machine/Step.lean ====
section
/-! DEFINITION. The step of the machine: the environment's next choice, or what happens with none (20_memory.md R60). -/

namespace Sys2Proof.Machine

/-- One step. The order of steps is the environment's (`State.inputs`): every order is some state's. -/
def step (s : State) : Host.Outcome State Fault Refusal :=
  match s.inputs with
  | [] => undriven s
  | x :: _ => deliver x s.taken

/-- The state with the opcode table's word `w` as the event that the very next step delivers. -/
def State.withFetchWord (s : State) (nbits w : Nat) : State := s.present nbits w

end Sys2Proof.Machine
end

