-- ==== Sys2Proof/Machine/Outputs.lean ====
section
/-! DEFINITION. What leaves the block (20_memory.md R69, 30_encoding.md R80). -/

namespace Sys2Proof.Machine

/-- The outputs of 30_encoding.md R80: the display's lines, and what the front end takes. -/
structure Outputs where
  digitSel : DigitLines
  seg : Pattern
  /-- Present only if `HAS_DP` (41_digit_mux.md R149). -/
  dp : Option (BitVec 1)
  txData : Byte
  ackEn : BitVec 1
deriving DecidableEq, Repr

/-- The outputs in a state; they are observable after every step (30_encoding.md R80). -/
def outputsOf (s : State) : Outputs where
  digitSel := s.digitSel
  seg := s.seg
  dp := if s.cfg.hasDp then some s.dp else none
  txData := s.txData
  ackEn := s.ackEn

end Sys2Proof.Machine
end

