-- ==== Sys2Proof/Machine/FrontEnd.lean ====
section
/-! DEFINITION. The bus front end's contract (40_bus_slave.md R121 to R124): what the environment's circuit delivers to the block for what
the master does, and what it drives on the bus from the block's outputs. It is no part of the block, and no step of the block reads it. All
of it is PRESUMED by the spec (its G5 to G8; log entry 9). -/

namespace Sys2Proof.Machine

/-- What the master does on the bus, a byte at a time (40_bus_slave.md R120 says how the wires carry it). -/
inductive Wire where
  /-- A START, repeated or not. -/
  | start
  /-- A STOP. -/
  | stop
  /-- A byte the master sends. -/
  | byte (b : Byte)
  /-- The ninth clock of a byte the slave sent: acknowledged or not. -/
  | reply (acked : Bool)
deriving DecidableEq, Repr

/-- What the front end is waiting for. -/
inductive FrontPhase where
  /-- The next START; everything else is ignored. -/
  | unaddressed
  /-- The address byte. -/
  | addressing
  /-- A data byte, a STOP or a START. -/
  | receiving
  /-- The master's reply to the byte shifted out. -/
  | transmitting
deriving DecidableEq, Repr

/-- Bits 7..1 of the address byte equal `SLAVE_ADDR`, and it is not the general call's address 0x00 (40_bus_slave.md R121; log entry 9). -/
def addressMatch (c : Config) (b : Byte) : Bool :=
  decide (b.extractLsb' 1 7 = c.slaveAddr) && decide (b.extractLsb' 1 7 ≠ 0#7)

/-- Bit 0 of the address byte: the master reads (40_bus_slave.md R121). -/
def addressReads (b : Byte) : Bool := b.getLsbD 0

/-- The front end's next phase (40_bus_slave.md R121 to R123). -/
def frontNext (c : Config) : FrontPhase → Wire → FrontPhase
  | .unaddressed, .start => .addressing
  | .unaddressed, .stop => .unaddressed
  | .unaddressed, .byte _ => .unaddressed
  | .unaddressed, .reply _ => .unaddressed
  | .addressing, .start => .addressing
  | .addressing, .stop => .unaddressed
  | .addressing, .byte b => if addressMatch c b then (if addressReads b then .transmitting else .receiving) else .unaddressed
  | .addressing, .reply _ => .addressing
  | .receiving, .start => .addressing
  | .receiving, .stop => .unaddressed
  | .receiving, .byte _ => .receiving
  | .receiving, .reply _ => .receiving
  | .transmitting, .start => .addressing
  | .transmitting, .stop => .unaddressed
  | .transmitting, .byte _ => .transmitting
  | .transmitting, .reply true => .transmitting
  | .transmitting, .reply false => .unaddressed

/-- The event the front end delivers, if any (40_bus_slave.md R121 to R123). -/
def frontEvent (c : Config) : FrontPhase → Wire → Option EventWord
  | .addressing, .byte b =>
    if addressMatch c b then some (if addressReads b then encode .slaR else encode .slaW) else none
  | .receiving, .byte b => some (evWord 0b00#2 0x80#8 b)
  | .receiving, .start => some (encode .stopRstart)
  | .receiving, .stop => some (encode .stopRstart)
  | .transmitting, .reply true => some (encode .dataTxAck)
  | .transmitting, .reply false => some (encode .dataTxNack)
  | _, _ => none

/-- The events the front end delivers for a sequence of wire conditions. -/
def frontEvents (c : Config) : FrontPhase → List Wire → List EventWord
  | _, [] => []
  | p, w :: ws =>
    match frontEvent c p w with
    | some ev => ev :: frontEvents c (frontNext c p w) ws
    | none => frontEvents c (frontNext c p w) ws

/-- The front end acknowledges the byte: its own address, and every byte of a write (40_bus_slave.md R121, R122). -/
def frontAcks (c : Config) : FrontPhase → Wire → Bool
  | .addressing, .byte b => addressMatch c b
  | .receiving, .byte _ => true
  | _, _ => false

/-- Once the operation of the event delivered has completed, the front end shifts out a byte: after `SLA_R`, and after each `DATA_TX_ACK`
(40_bus_slave.md R122). DESIGN CHOICE: after each one delivered, a no-op in the block among them, as after a `RESET` in the middle of a read
(log entry 13). -/
def frontShifts (c : Config) : FrontPhase → Wire → Bool
  | .addressing, .byte b => addressMatch c b && addressReads b
  | .transmitting, .reply true => true
  | _, _ => false

/-- What the front end drives on the bus for the master to see (20_memory.md R69 (b), (c)). -/
inductive Driven where
  /-- The ninth clock of a byte the master sent; 1 is an acknowledge. -/
  | ack (bit : BitVec 1)
  /-- A byte shifted out. -/
  | shifted (b : Byte)
deriving DecidableEq, Repr

/-- What the front end drives for one wire condition, with the block in state `s` before the event delivered and in `t` once its operation
has completed: the acknowledge the block's `ackEn` asks for, and `txData` as it stands then (40_bus_slave.md R121, R122). -/
def frontDrives (c : Config) (p : FrontPhase) (w : Wire) (s t : State) : List Driven :=
  (if frontAcks c p w then [.ack (outputsOf s).ackEn] else []) ++ (if frontShifts c p w then [.shifted (outputsOf t).txData] else [])

/-- What the block does for one wire condition: the operation of the event delivered, whole, before the bus goes on (40_bus_slave.md R124). -/
def frontDeliver (c : Config) (p : FrontPhase) (w : Wire) (s : State) : Host.Outcome State Fault Refusal :=
  match frontEvent c p w with
  | some ev => deliver (.event ev) s
  | none => .next s

/-- The block attached to the bus: the front end's phase, the block, and what has been driven so far, first thing first. -/
structure Attached where
  phase : FrontPhase
  block : State
  driven : List Driven
deriving DecidableEq, Repr

/-- What happens next: a condition on the bus, or a step of the block between two of them (a tick, a tick operation's step, a reset). -/
inductive Moment where
  | wire (w : Wire)
  | block (x : Input)
deriving DecidableEq, Repr

/-- The attached block after the block's part of a moment; a stop stays. -/
def attachedAfter (o : Host.Outcome State Fault Refusal) (f : State → Attached) : Host.Outcome Attached Fault Refusal :=
  match o with
  | .next t => .next (f t)
  | .fault e => .fault e
  | .refused e => .refused e

/-- One moment of the block on the bus; the front end has the block's `SLAVE_ADDR` (40_bus_slave.md R121, R122). DESIGN CHOICE: a
`RESET` of the block leaves the front end's phase and the transaction on the bus as they are (log entry 13). -/
def attachedMoment (m : Moment) (a : Attached) : Host.Outcome Attached Fault Refusal :=
  match m with
  | .wire w =>
    attachedAfter (frontDeliver a.block.cfg a.phase w a.block) fun t =>
      { phase := frontNext a.block.cfg a.phase w, block := t, driven := a.driven ++ frontDrives a.block.cfg a.phase w a.block t }
  | .block x => attachedAfter (deliver x a.block) fun t => { a with block := t }

/-- The moments of a list one after another. -/
def attachedRun : List Moment → Attached → Host.Outcome Attached Fault Refusal
  | [], a => .next a
  | m :: ms, a =>
    match attachedMoment m a with
    | .next b => attachedRun ms b
    | .fault e => .fault e
    | .refused e => .refused e

/-- What the master has seen on the bus at the end of a run, if the run answers a next state (20_memory.md R69). -/
def masterSees (o : Host.Outcome Attached Fault Refusal) : Option (List Driven) :=
  match o with
  | .next a => some a.driven
  | .fault _ => none
  | .refused _ => none

/-- The wire conditions of a read of `k + 1` bytes whose address byte is `b`: START, the address byte, `k` bytes acknowledged and the last
one not (40_bus_slave.md R121 to R123). -/
def readOnTheBus (b : Byte) (k : Nat) : List Moment :=
  .wire .start :: .wire (.byte b) :: List.replicate k (.wire (.reply true)) ++ [.wire (.reply false)]

/-- The master ends a read by not acknowledging (40_bus_slave.md R123): while the slave transmits, the bus carries replies only. -/
def masterEndsReads (c : Config) : FrontPhase → List Wire → Bool
  | _, [] => true
  | p, w :: ws =>
    (match p, w with
      | .transmitting, .reply _ => true
      | .transmitting, _ => false
      | _, _ => true) && masterEndsReads c (frontNext c p w) ws

/-- Where a sequence of bus events stands in the grammar of 40_bus_slave.md R123. -/
inductive SessionPhase where
  | between
  | writing
  | reading
deriving DecidableEq, Repr

/-- `session ::= (write_txn | read_txn)*; write_txn ::= SLA_W DATA_RX* STOP_RSTART; read_txn ::= SLA_R DATA_TX_ACK* DATA_TX_NACK`: the phase
after one more event, or none where the grammar has no such event (40_bus_slave.md R123). -/
def sessionNext : SessionPhase → Instr → Option SessionPhase
  | .between, .slaW => some .writing
  | .between, .slaR => some .reading
  | .writing, .dataRxChar _ => some .writing
  | .writing, .dataRxTerm _ => some .writing
  | .writing, .stopRstart => some .between
  | .reading, .dataTxAck => some .reading
  | .reading, .dataTxNack => some .between
  | _, _ => none

/-- The events go on a session from a phase of the grammar: they are the beginning of a well-formed sequence. -/
def sessionGoesOn : SessionPhase → List Instr → Bool
  | _, [] => true
  | p, i :: is =>
    match sessionNext p i with
    | some q => sessionGoesOn q is
    | none => false

end Sys2Proof.Machine
end

