-- ==== Sys2Proof/Machine/Script.lean ====
section
/-! DEFINITION. Event scripts and pseudo-operations as lists of the environment's choices (30_encoding.md R90, R91). -/

namespace Sys2Proof.Machine

/-- An event by its canonical word (30_encoding.md R90). -/
def sendEvent (i : Instr) : Input := .event (encode i)

/-- `RX b`, the word 0x08000 + `b` (30_encoding.md R90). -/
def sendByte (b : Byte) : Input := .event (evWord 0b00#2 0x80#8 b)

/-- `BUSX c`: the word `c` shifted left by 8 (30_encoding.md R90). -/
def sendCode (c : Byte) : Input := .event (evWord 0b00#2 c 0#8)

/-- `TICK_R`, run to completion: M1 to M5 (30_encoding.md R90, 41_digit_mux.md R141). -/
def refreshTick : List Input := [sendEvent .tickRefresh, .muxStep, .muxStep, .muxStep, .muxStep]

/-- `TICK_S`, run to completion: S1 to S3 (30_encoding.md R90, 42_scroll.md R161). -/
def scrollTick : List Input := [sendEvent .tickScroll, .scrollStep, .scrollStep]

/-- The bracket form `TICK[k: e]`: the first `k` steps, then `e`, then the remaining steps (30_encoding.md R90). -/
def tornAt (k : Nat) (e tick : List Input) : List Input := tick.take k ++ e ++ tick.drop k

/-- `n` copies of a tick, one after another: `TICKS_R n`, `TICKS_S n` (30_encoding.md R91). -/
def ticks (tick : List Input) : Nat → List Input
  | 0 => []
  | n + 1 => tick ++ ticks tick n

/-- `WRITE "s"` (30_encoding.md R91). -/
def writeText (s : List Byte) : List Input := sendEvent .slaW :: s.map sendByte ++ [sendEvent .stopRstart]

/-- `WRITEZ "s"` (30_encoding.md R91). -/
def writeTextZ (s : List Byte) : List Input := sendEvent .slaW :: s.map sendByte ++ [sendByte 0x00#8, sendEvent .stopRstart]

/-- `READ n`, for `n >= 1` (30_encoding.md R91). -/
def readBytes (n : Nat) : List Input :=
  sendEvent .slaR :: List.replicate (n - 1) (sendEvent .dataTxAck) ++ [sendEvent .dataTxNack]

end Sys2Proof.Machine
end

