-- ==== Sys2Proof/Safety.lean ====
section
/-! DEFINITION. What the claims are stated in: the invariants of 20_memory.md R66 and R67, the premise of R68, the steps of R60, and what
an operation leaves alone. -/

namespace Sys2Proof.Machine

/-- A sampled offset is at most 46 and a sampled length at most 50, where valid (20_memory.md R66 (f)). -/
def MuxOp.inRange : MuxOp → Prop
  | .idle => True
  | .m1 => True
  | .m2 mW => mW ≤ 46
  | .m3 mW mL => mW ≤ 46 ∧ mL ≤ 50
  | .m4 mW mL _ => mW ≤ 46 ∧ mL ≤ 50

/-- A sampled offset is at most 46 and a sampled length at most 50, where valid (20_memory.md R66 (f)). -/
def ScrollOp.inRange : ScrollOp → Prop
  | .idle => True
  | .s1 sL => sL ≤ 50
  | .s2 sL sW => sL ≤ 50 ∧ sW ≤ 46

/-- The range invariants of 20_memory.md R66 (its (d) is the type of `pos`), with the constants of 10_state.md R30 and R32, the buffer's
canonical form and the parameters' constraints. -/
structure StateInv (s : State) : Prop where
  cfg_wf : configWf s.cfg = true
  mem_wf : Memory.wf s.cfg.greeting s.mem = true
  length_le : s.length ≤ 50
  writeIndex_le : s.writeIndex ≤ 50
  windowOffset_le : s.windowOffset ≤ 46
  oneHot : s.digitSel = onehot4 s.pos
  mux_inRange : s.mux.inRange
  scroll_inRange : s.scroll.inRange
  dp_dark : s.dp = 0#1
  ack_on : s.ackEn = 1#1

/-- `WindowOK(L, w)` (20_memory.md R67). -/
def windowOK (l w : Nat) : Prop := (l ≤ 4 ∧ w = 0) ∨ (4 < l ∧ w + 3 < l)

/-- The values a scroll operation in flight has sampled are still those of the registers: no bus operation has torn it (R67, R68). -/
def scrollUntorn (s : State) : Prop :=
  match s.scroll with
  | .idle => True
  | .s1 sL => sL = s.length
  | .s2 sL sW => sL = s.length ∧ sW = s.windowOffset

/-- The choice delivers a bus event (20_memory.md R60 (1)). -/
def isBusInput : Input → Bool
  | .event ev => decide (agentOf (decode ev) = .bus)
  | .muxStep => false
  | .scrollStep => false

/-- The choice is a step of `MUX`: a delivered refresh tick (M1), or `muxStep` (41_digit_mux.md R141). -/
def isMuxInput : Input → Bool
  | .event ev => decide (agentOf (decode ev) = .mux)
  | .muxStep => true
  | .scrollStep => false

/-- The choice is a step of `SCROLL`: a delivered scroll tick (S1), or `scrollStep` (42_scroll.md R161). -/
def isScrollInput : Input → Bool
  | .event ev => decide (agentOf (decode ev) = .scroll)
  | .muxStep => false
  | .scrollStep => true

/-- `NoBusInsideTick` at one step (20_memory.md R68): a bus event comes only while no tick operation is in flight. -/
def noBusInsideTick (x : Input) (s : State) : Prop := isBusInput x = true → s.mux = .idle ∧ s.scroll = .idle

/-- The step is enabled (20_memory.md R60): a tick only while its agent is idle, an agent's step only while it is not. -/
def enabled (x : Input) (s : State) : Prop :=
  match x with
  | .event ev =>
    match decode ev with
    | .tickRefresh => s.mux = .idle
    | .tickScroll => s.scroll = .idle
    | _ => True
  | .muxStep => s.mux ≠ .idle
  | .scrollStep => s.scroll ≠ .idle

/-- The event a choice delivers, if it is a bus event. -/
def busEventOf : Input → Option Instr
  | .event ev => if agentOf (decode ev) = .bus then some (decode ev) else none
  | .muxStep => none
  | .scrollStep => none

/-- The byte of a `DATA_RX.CHAR`. -/
def charOf : Instr → Option Byte
  | .dataRxChar d => some d
  | .slaW => none
  | .dataRxTerm _ => none
  | .stopRstart => none
  | .slaR => none
  | .dataTxAck => none
  | .dataTxNack => none
  | .busOther _ => none
  | .tickRefresh => none
  | .tickScroll => none
  | .reset => none

/-- The choice neither ends nor commits nor restarts a write under way: no address match, no terminator, no `STOP_RSTART`, no `RESET`
(40_bus_slave.md R112, 20_memory.md R56). -/
def keepsWriteOpen : Input → Bool
  | .event ev =>
    match decode ev with
    | .slaW => false
    | .dataRxTerm _ => false
    | .dataRxChar _ => true
    | .stopRstart => false
    | .slaR => false
    | .dataTxAck => true
    | .dataTxNack => true
    | .busOther _ => true
    | .tickRefresh => true
    | .tickScroll => true
    | .reset => false
  | .muxStep => true
  | .scrollStep => true

/-- The choice delivers a reset. -/
def isResetInput : Input → Bool
  | .event ev => decide (decode ev = .reset)
  | .muxStep => false
  | .scrollStep => false

/-- The transition table of `proto` (40_bus_slave.md R112), with its row for the ticks and for RESET. -/
def protoTable : Proto → Instr → Proto
  | _, .slaW => .receivingWrite
  | p, .dataRxChar _ => p
  | p, .dataRxTerm _ => p
  | _, .stopRstart => .idle
  | _, .slaR => .transmittingRead
  | p, .dataTxAck => p
  | .idle, .dataTxNack => .idle
  | .receivingWrite, .dataTxNack => .receivingWrite
  | .transmittingRead, .dataTxNack => .idle
  | p, .busOther _ => p
  | p, .tickRefresh => p
  | p, .tickScroll => p
  | _, .reset => .idle

/-- The first row of the event table whose match and mask a word meets (30_encoding.md R85). -/
def firstTableRow (ev : EventWord) : Instr :=
  if ev &&& 0x3FF00#18 = 0x06000#18 then .slaW
  else if ev &&& 0x3FFE0#18 = 0x08000#18 then .dataRxTerm (ev.setWidth 8)
  else if ev &&& 0x3FF00#18 = 0x08000#18 then .dataRxChar (ev.setWidth 8)
  else if ev &&& 0x3FF00#18 = 0x0A000#18 then .stopRstart
  else if ev &&& 0x3FF00#18 = 0x0A800#18 then .slaR
  else if ev &&& 0x3FF00#18 = 0x0B800#18 then .dataTxAck
  else if ev &&& 0x3FF00#18 = 0x0C000#18 then .dataTxNack
  else if ev &&& 0x30000#18 = 0x00000#18 then .busOther ((ev >>> 8).setWidth 8)
  else if ev &&& 0x30000#18 = 0x10000#18 then .tickRefresh
  else if ev &&& 0x30000#18 = 0x20000#18 then .tickScroll
  else .reset

/-- Every cell reads the same in both states. -/
def SameCells (s t : State) : Prop := ∀ i, t.cell? i = s.cell? i

/-- The bus transaction registers and the bus-facing outputs are the same in both states (10_state.md R24 to R27, R32). -/
def SameBus (s t : State) : Prop :=
  t.proto = s.proto ∧ t.rxClosed = s.rxClosed ∧ t.writeIndex = s.writeIndex ∧ t.readIndex = s.readIndex ∧ t.txData = s.txData
    ∧ t.ackEn = s.ackEn

/-- The display registers are the same in both states (10_state.md R28 to R30). -/
def SameDisplay (s t : State) : Prop := t.pos = s.pos ∧ t.digitSel = s.digitSel ∧ t.seg = s.seg ∧ t.dp = s.dp

/-- The tick operations in flight are the same in both states (10_state.md R36). -/
def SameFlight (s t : State) : Prop := t.mux = s.mux ∧ t.scroll = s.scroll

/-- The configuration and the environment's choices are the same in both states (10_state.md R38). -/
def SameSetting (s t : State) : Prop := t.cfg = s.cfg ∧ t.inputs = s.inputs

end Sys2Proof.Machine
end

