-- ==== Sys2Proof/Certificates/Slice0/Obligations.lean ====
section
/-! DEFINITION. The statements for the provers, each from the numbered rules its docstring names. -/

open Sys2Proof Sys2Proof.Machine

/-! Encoding. -/

/-- 30_encoding.md R81, R84, R85: decoding the canonical word of a well-formed event gives that event, at every operand. -/
def Obligations.DecodeOfEncodeIsTheEvent : Prop := ∀ i : Instr, i.wf = true → decode (encode i) = i

/-- 30_encoding.md R85: decoding is total and takes the first row of the table whose match and mask the word meets
(the layout of the word is the spec's own, its decision D2). -/
def Obligations.DecodeTakesTheFirstTableRow : Prop := ∀ ev : EventWord, decode ev = firstTableRow ev

/-- Words written out from 30_encoding.md R84 and R90 and 95_test_vectors.md, don't-care bits among them. -/
def Obligations.SpecWordsDecode : Prop :=
  decode 0x06000#18 = .slaW ∧ decode 0x060FF#18 = .slaW ∧ decode 0x08005#18 = .dataRxTerm 0x05#8 ∧
  decode 0x0801F#18 = .dataRxTerm 0x1F#8 ∧ decode 0x08020#18 = .dataRxChar 0x20#8 ∧ decode 0x080FF#18 = .dataRxChar 0xFF#8 ∧
  decode 0x0A000#18 = .stopRstart ∧ decode 0x0A800#18 = .slaR ∧ decode 0x0B800#18 = .dataTxAck ∧ decode 0x0C000#18 = .dataTxNack ∧
  decode 0x0C800#18 = .busOther 0xC8#8 ∧ decode 0x1ABCD#18 = .tickRefresh ∧ decode 0x2FFFF#18 = .tickScroll ∧
  decode 0x3A5A5#18 = .reset

/-! The step. -/

/-- 20_memory.md R60, 60_exceptions.md R177, R180: a scheduled event word is decoded and its operation runs, on the state with that choice
taken off the schedule; nothing else is added around it. The schedule is the model's form of the environment (log entry 5). -/
def Obligations.StepRunsTheDecodedEvent : Prop :=
  ∀ (s : State) (ev : EventWord) (xs : List Input), s.inputs = .event ev :: xs →
    (decode ev).wf = true ∧ step s = exec (decode ev) { s with inputs := xs }

/-- 20_memory.md R60 (3), (5): a scheduled `muxStep` or `scrollStep` runs the next step of that agent (schedule: log entry 5). -/
def Obligations.StepRunsTheScheduledAgent : Prop :=
  ∀ (s : State) (xs : List Input),
    (s.inputs = .muxStep :: xs → step s = muxStep { s with inputs := xs }) ∧
    (s.inputs = .scrollStep :: xs → step s = scrollStep { s with inputs := xs })

/-- The model's own convention (log entry 5): the opcode table's word, put first on the schedule, is what the very next step runs. -/
def Obligations.PresentedWordRunsNext : Prop :=
  ∀ (s : State) (nbits w : Nat) (i : Instr), decodeTableWord nbits w = some i → step (s.withFetchWord nbits w) = exec i s

/-- 20_memory.md R60: a run over a schedule is the delivery of its choices one after another, and the rest of the schedule waits
(schedule: log entry 5). -/
def Obligations.RunDeliversTheSchedule : Prop :=
  ∀ (xs : List Input) (s : State),
    Host.Core.run core xs.length { s with inputs := xs ++ s.inputs } = deliverAll xs s

/-- 60_exceptions.md R175: between events the block does nothing; `between events` is the model's empty schedule (log entry 5). -/
def Obligations.QuiescentBlockIsStill : Prop :=
  ∀ s : State, s.inputs = [] → s.mux = .idle → s.scroll = .idle → step s = .next s

/-- 20_memory.md R60, 60_exceptions.md R182: with nothing more delivered, the tick operations in flight finish within their six steps
(the bounded form of the spec's fairness; log entry 6). -/
def Obligations.InFlightOperationsFinish : Prop :=
  ∀ s : State, StateInv s → s.inputs = [] →
    ∃ t : State, Host.Core.run core 6 s = .next t ∧ t.mux = .idle ∧ t.scroll = .idle

/-! Reset. -/

/-- 10_state.md R39: the state after reset, for every configuration. All but the greeting is the spec's own choice (its decision D18);
the unspecified byte and cells are the model's free values (log entries 3 and 4). -/
def Obligations.ResetStateValues : Prop :=
  ∀ c : Config,
    (∀ i b, i < 50 → c.greeting[i]? = some b → (State.resetWith c).cell? i = some b) ∧
    (∀ i, c.greeting.length ≤ i → i < 50 → (State.resetWith c).cell? i = some (Config.freeCell 0 i)) ∧
    (State.resetWith c).length = c.greeting.length ∧ (State.resetWith c).windowOffset = 0 ∧ (State.resetWith c).writeIndex = 0 ∧
    (State.resetWith c).rxClosed = false ∧ (State.resetWith c).readIndex = 0 ∧ (State.resetWith c).proto = .idle ∧
    (State.resetWith c).pos = 3 ∧ (State.resetWith c).digitSel = 0b1000#4 ∧ (State.resetWith c).seg = 0b0000000#7 ∧
    (State.resetWith c).dp = 0#1 ∧ (State.resetWith c).txData = Config.freeByte 0 ∧ (State.resetWith c).ackEn = 1#1 ∧
    (State.resetWith c).mux = .idle ∧ (State.resetWith c).scroll = .idle

/-- 70_reset_and_hazards.md R210: `RESET`, in any state, leaves R39's values and abandons the tick operations in flight; a second one
changes only the unspecified cells and `txData`. `RESET` as an event, and the values, are the spec's own (its decisions D18, D19); the free
values are the model's (log entries 3 and 4). -/
def Obligations.ResetEventRestartsTheBlock : Prop :=
  decode 0x30000#18 = .reset ∧
  ∀ s : State, ∃ t, exec .reset s = .next t ∧
    (∀ i b, i < 50 → s.cfg.greeting[i]? = some b → t.cell? i = some b) ∧
    (∀ i, s.cfg.greeting.length ≤ i → i < 50 → t.cell? i = some (Config.freeCell s.draws i)) ∧
    t.length = s.cfg.greeting.length ∧ t.windowOffset = 0 ∧ t.writeIndex = 0 ∧ t.rxClosed = false ∧ t.readIndex = 0 ∧ t.proto = .idle ∧
    t.pos = 3 ∧ t.digitSel = 0b1000#4 ∧ t.seg = 0b0000000#7 ∧ t.dp = 0#1 ∧ t.txData = Config.freeByte s.draws ∧ t.ackEn = 1#1 ∧
    t.mux = .idle ∧ t.scroll = .idle ∧ SameSetting s t ∧
    exec .reset t = .next { t with txData := Config.freeByte t.draws, epoch := t.draws, draws := t.draws + 1 }

/-- 70_reset_and_hazards.md R213, 20_memory.md R66, R67: the reset state of every admitted configuration meets the invariants. -/
def Obligations.ResetStateMeetsTheInvariants : Prop :=
  ∀ c : Config, configWf c = true →
    StateInv (State.resetWith c) ∧ windowOK (State.resetWith c).length (State.resetWith c).windowOffset ∧ scrollUntorn (State.resetWith c)

/-- 00_scope.md R7: the device that `State.reset` describes (the model's choice, log entry 2) has an admitted configuration, so its reset
state meets the invariants. -/
def Obligations.DeviceResetMeetsTheInvariants : Prop :=
  configWf State.reset.cfg = true ∧ StateInv State.reset ∧ windowOK State.reset.length State.reset.windowOffset

/-- 70_reset_and_hazards.md R212: the first four refresh ticks after reset show the greeting's first four characters, blank beyond it. -/
def Obligations.GreetingShownAfterReset : Prop :=
  ∀ (c : Config) (k : Nat), configWf c = true → k < 4 →
    ∃ t, deliverAll (ticks refreshTick (k + 1)) (State.resetWith c) = .next t ∧ t.pos.val = k ∧
      t.seg = segOf c (c.greeting.getD k 0x20#8)

/-! The Bus Slave Protocol. Where a statement of this file names an event's word, the word is the spec's own choice (log entry 10). -/

/-- 40_bus_slave.md R101: `SLA_W`. The word is the spec's own choice (log entry 10), and so is that it is accepted in every state (its
decision D9). -/
def Obligations.WriteMatchOpensTheTransaction : Prop :=
  decode 0x06000#18 = .slaW ∧
  ∀ s : State, ∃ t, exec .slaW s = .next t ∧
    t.proto = .receivingWrite ∧ t.rxClosed = false ∧ t.writeIndex = 0 ∧ t.windowOffset = 0 ∧
    SameCells s t ∧ t.length = s.length ∧ t.readIndex = s.readIndex ∧ t.txData = s.txData ∧ t.ackEn = s.ackEn ∧
    SameDisplay s t ∧ SameFlight s t ∧ SameSetting s t ∧ t.draws = s.draws ∧ t.epoch = s.epoch ∧
    exec .slaW t = .next t

/-- 40_bus_slave.md R102: `DATA_RX.CHAR`; the byte is stored and counted when the transaction accepts it and the buffer has room, and
nothing changes otherwise. The word is the spec's own choice (log entry 10), and so are the unsigned test (its decision D11) and that nothing
happens outside a write (D9). -/
def Obligations.PrintableByteIsStoredOrDropped : Prop :=
  (∀ d : Byte, 0x20 ≤ d.toNat → decode (0x08000#18 + d.setWidth 18) = .dataRxChar d) ∧
  (∀ (s : State) (d : Byte), Memory.wf s.cfg.greeting s.mem = true → s.proto = .receivingWrite → s.rxClosed = false → s.writeIndex < 50 →
    ∃ t, exec (.dataRxChar d) s = .next t ∧ t.cell? s.writeIndex = some d ∧ (∀ i, i ≠ s.writeIndex → t.cell? i = s.cell? i) ∧
      t.writeIndex = s.writeIndex + 1 ∧
      t.length = s.length ∧ t.windowOffset = s.windowOffset ∧ t.rxClosed = s.rxClosed ∧ t.proto = s.proto ∧ t.readIndex = s.readIndex ∧
      t.txData = s.txData ∧ t.ackEn = s.ackEn ∧ SameDisplay s t ∧ SameFlight s t ∧ SameSetting s t ∧ t.draws = s.draws ∧
      t.epoch = s.epoch) ∧
  (∀ (s : State) (d : Byte), ¬(s.proto = .receivingWrite ∧ s.rxClosed = false ∧ s.writeIndex < 50) →
    exec (.dataRxChar d) s = .next s)

/-- 40_bus_slave.md R103: `DATA_RX.TERM`; every byte below 0x20 commits the length alike. That it also resets the offset is the spec's
choice (90_conflicts.md C4, its decision D12). -/
def Obligations.TerminatorCommitsTheLength : Prop :=
  (∀ d : Byte, d.toNat < 0x20 → decode (0x08000#18 + d.setWidth 18) = .dataRxTerm d) ∧
  (∀ (s : State) (d : Byte), s.proto = .receivingWrite → s.rxClosed = false →
    ∃ t, exec (.dataRxTerm d) s = .next t ∧ t.length = s.writeIndex ∧ t.windowOffset = 0 ∧ t.rxClosed = true ∧
      SameCells s t ∧ t.writeIndex = s.writeIndex ∧ t.proto = s.proto ∧ t.readIndex = s.readIndex ∧ t.txData = s.txData ∧
      t.ackEn = s.ackEn ∧ SameDisplay s t ∧ SameFlight s t ∧ SameSetting s t ∧ t.draws = s.draws ∧ t.epoch = s.epoch) ∧
  (∀ (s : State) (d : Byte), ¬(s.proto = .receivingWrite ∧ s.rxClosed = false) → exec (.dataRxTerm d) s = .next s)

/-- 40_bus_slave.md R108: `STOP_RSTART`, under both settings of `STOP_COMMITS_LENGTH` (the parameter is the spec's decision D6). -/
def Obligations.StopEndsTheTransaction : Prop :=
  decode 0x0A000#18 = .stopRstart ∧
  ∀ s : State, ∃ t, exec .stopRstart s = .next t ∧ t.proto = .idle ∧
    (s.cfg.stopCommitsLength = true ∧ s.proto = .receivingWrite ∧ s.rxClosed = false →
      t.length = s.writeIndex ∧ t.windowOffset = 0) ∧
    (¬(s.cfg.stopCommitsLength = true ∧ s.proto = .receivingWrite ∧ s.rxClosed = false) →
      t.length = s.length ∧ t.windowOffset = s.windowOffset) ∧
    SameCells s t ∧ t.writeIndex = s.writeIndex ∧ t.readIndex = s.readIndex ∧ t.rxClosed = s.rxClosed ∧ t.txData = s.txData ∧
    t.ackEn = s.ackEn ∧ SameDisplay s t ∧ SameFlight s t ∧ SameSetting s t ∧ t.draws = s.draws ∧ t.epoch = s.epoch

/-- 40_bus_slave.md R104, 20_memory.md R53: `SLA_R`, under both settings of `READ_START`; a byte past cell 49 is the next free value
(the spec's draw, its decisions D5, D7; the model's counter, log entry 4). -/
def Obligations.ReadMatchStartsTheStream : Prop :=
  decode 0x0A800#18 = .slaR ∧
  ∀ s : State, ∃ t, exec .slaR s = .next t ∧ t.proto = .transmittingRead ∧
    t.readIndex = (if s.cfg.readStart = .zero then 0 else s.writeIndex) ∧
    (t.readIndex < 50 → s.cell? t.readIndex = some t.txData ∧ t.draws = s.draws) ∧
    (50 ≤ t.readIndex → t.txData = Config.freeByte s.draws ∧ t.draws = s.draws + 1) ∧
    SameCells s t ∧ t.length = s.length ∧ t.windowOffset = s.windowOffset ∧ t.writeIndex = s.writeIndex ∧ t.rxClosed = s.rxClosed ∧
    t.ackEn = s.ackEn ∧ SameDisplay s t ∧ SameFlight s t ∧ SameSetting s t ∧ t.epoch = s.epoch

/-- 40_bus_slave.md R105, 20_memory.md R53: `DATA_TX_ACK`; the index has no bound and does not wrap; a byte past cell 49 is the next
free value (log entry 4). -/
def Obligations.AcknowledgedByteAdvancesTheStream : Prop :=
  decode 0x0B800#18 = .dataTxAck ∧
  (∀ s : State, s.proto = .transmittingRead → ∃ t, exec .dataTxAck s = .next t ∧ t.readIndex = s.readIndex + 1 ∧
    (s.readIndex + 1 < 50 → s.cell? (s.readIndex + 1) = some t.txData ∧ t.draws = s.draws) ∧
    (50 ≤ s.readIndex + 1 → t.txData = Config.freeByte s.draws ∧ t.draws = s.draws + 1) ∧
    SameCells s t ∧ t.proto = s.proto ∧ t.length = s.length ∧ t.windowOffset = s.windowOffset ∧ t.writeIndex = s.writeIndex ∧
    t.rxClosed = s.rxClosed ∧ t.ackEn = s.ackEn ∧ SameDisplay s t ∧ SameFlight s t ∧ SameSetting s t ∧ t.epoch = s.epoch) ∧
  (∀ s : State, s.proto ≠ .transmittingRead → exec .dataTxAck s = .next s)

/-- 40_bus_slave.md R106: `DATA_TX_NACK`. The word is the spec's own choice (log entry 10), and so is that nothing happens outside a read (its
decision D9). -/
def Obligations.UnacknowledgedByteEndsTheRead : Prop :=
  decode 0x0C000#18 = .dataTxNack ∧
  (∀ s : State, s.proto = .transmittingRead → ∃ t, exec .dataTxNack s = .next t ∧ t.proto = .idle ∧
    SameCells s t ∧ t.readIndex = s.readIndex ∧ t.txData = s.txData ∧ t.length = s.length ∧ t.windowOffset = s.windowOffset ∧
    t.writeIndex = s.writeIndex ∧ t.rxClosed = s.rxClosed ∧ t.ackEn = s.ackEn ∧ SameDisplay s t ∧ SameFlight s t ∧ SameSetting s t ∧
    t.draws = s.draws ∧ t.epoch = s.epoch) ∧
  (∀ s : State, s.proto ≠ .transmittingRead → exec .dataTxNack s = .next s)

/-- 40_bus_slave.md R109: `BUS_OTHER`, for every code that is none of the six and whatever byte comes with it, changes nothing.
Which six codes are recognised, and the layout of the word, are the spec's own choice (its decisions D2, D3; log entry 10). -/
def Obligations.OtherBusConditionChangesNothing : Prop :=
  ∀ (s : State) (cc d : Byte),
    cc ≠ 0x60#8 → cc ≠ 0x80#8 → cc ≠ 0xA0#8 → cc ≠ 0xA8#8 → cc ≠ 0xB8#8 → cc ≠ 0xC0#8 →
    decode (evWord 0b00#2 cc d) = .busOther cc ∧ exec (.busOther cc) s = .next s

/-- 40_bus_slave.md R110: recognised events in a state that does not expect them are no-ops (the spec's decision D9). -/
def Obligations.UnexpectedEventsChangeNothing : Prop :=
  ∀ (s : State) (d : Byte),
    (s.proto ≠ .receivingWrite → exec (.dataRxChar d) s = .next s ∧ exec (.dataRxTerm d) s = .next s) ∧
    (s.proto ≠ .transmittingRead → exec .dataTxAck s = .next s ∧ exec .dataTxNack s = .next s)

/-- 40_bus_slave.md R111: an address match is accepted in every state and commits no length, whatever `STOP_COMMITS_LENGTH` is
(the spec's decision D9). -/
def Obligations.AddressMatchCommitsNothing : Prop :=
  ∀ s : State,
    (∃ t, exec .slaW s = .next t ∧ t.proto = .receivingWrite ∧ t.length = s.length) ∧
    (∃ t, exec .slaR s = .next t ∧ t.proto = .transmittingRead ∧ t.length = s.length ∧ t.windowOffset = s.windowOffset)

/-- 40_bus_slave.md R112: the next value of `proto` is the transition table's, for every event and every current value.
The table is the spec's inference from R101 to R111 and rests on its decision D9. -/
def Obligations.ProtoFollowsTheTransitionTable : Prop :=
  ∀ (i : Instr) (s t : State), exec i s = .next t → t.proto = protoTable s.proto i

/-- 40_bus_slave.md R107, 60_exceptions.md R190: every bus operation completes in every state; it writes no display register, no
in-flight temporary, no parameter and not `ackEn` (the spec's decision D10). -/
def Obligations.BusLeavesTheDisplayAlone : Prop :=
  ∀ (i : Instr) (s : State), agentOf i = .bus →
    ∃ t, exec i s = .next t ∧ SameDisplay s t ∧ SameFlight s t ∧ t.cfg = s.cfg ∧ t.ackEn = s.ackEn

/-- 20_memory.md R55 (e), 40_bus_slave.md R107: what a bus operation does to everything else does not depend on `length` or
`windowOffset`. -/
def Obligations.BusReadsNeitherLengthNorOffset : Prop :=
  ∀ (i : Instr) (s : State) (l w : Nat), agentOf i = .bus →
    ∃ t t', exec i s = .next t ∧ exec i { s with length := l, windowOffset := w } = .next t' ∧
      t' = { t with length := t'.length, windowOffset := t'.windowOffset } ∧
      (t.length ≠ s.length → t'.length = t.length) ∧ (t.windowOffset ≠ s.windowOffset → t'.windowOffset = t.windowOffset)

/-- 40_bus_slave.md R107: what a bus operation does does not depend on the display registers or the in-flight temporaries. -/
def Obligations.BusReadsNoDisplayState : Prop :=
  ∀ (i : Instr) (s : State) (p : Fin 4) (ds : DigitLines) (sg : Pattern) (dpt : BitVec 1) (m : MuxOp) (sc : ScrollOp), agentOf i = .bus →
    ∃ t, exec i s = .next t ∧
      exec i { s with pos := p, digitSel := ds, seg := sg, dp := dpt, mux := m, scroll := sc } =
        .next { t with pos := p, digitSel := ds, seg := sg, dp := dpt, mux := m, scroll := sc }

/-- 40_bus_slave.md R113, with tick steps interleaved in any way: the bus events of the run are `SLA_W`, printable bytes, a terminator last.
The rule is the spec's inference from R101 to R103; that the offset is 0 after interleaved ticks rests on its decision D12. -/
def Obligations.TerminatedWriteUnderAnyInterleaving : Prop :=
  ∀ (s t : State) (ys : List Input) (ev : EventWord) (chars : List Byte) (d : Byte),
    Memory.wf s.cfg.greeting s.mem = true →
    ys.filterMap busEventOf = .slaW :: chars.map .dataRxChar → ys.all (fun x => !isResetInput x) = true →
    decode ev = .dataRxTerm d → deliverAll (ys ++ [.event ev]) s = .next t →
    (∀ i, i < min chars.length 50 → t.cell? i = chars[i]?) ∧ t.length = min chars.length 50 ∧ t.writeIndex = min chars.length 50 ∧
      t.windowOffset = 0 ∧ t.rxClosed = true ∧ (∀ i, min chars.length 50 ≤ i → t.cell? i = s.cell? i)

/-- 40_bus_slave.md R113, with no event between: the write completes, with R113's result. -/
def Obligations.TerminatedWriteCompletes : Prop :=
  ∀ (s : State) (chars : List Byte) (d : Byte),
    Memory.wf s.cfg.greeting s.mem = true → (∀ b ∈ chars, 0x20 ≤ b.toNat) → d.toNat < 0x20 →
    ∃ t, deliverAll (sendEvent .slaW :: chars.map sendByte ++ [sendByte d]) s = .next t ∧
      (∀ i, i < min chars.length 50 → t.cell? i = chars[i]?) ∧ t.length = min chars.length 50 ∧ t.writeIndex = min chars.length 50 ∧
      t.windowOffset = 0 ∧ t.rxClosed = true ∧ (∀ i, min chars.length 50 ≤ i → t.cell? i = s.cell? i) ∧
      SameDisplay s t ∧ SameFlight s t ∧ t.readIndex = s.readIndex ∧ t.txData = s.txData

/-- 40_bus_slave.md R114: `WRITE "s"`, under both settings of `STOP_COMMITS_LENGTH`. -/
def Obligations.UnterminatedWriteResult : Prop :=
  ∀ (s : State) (chars : List Byte),
    Memory.wf s.cfg.greeting s.mem = true → (∀ b ∈ chars, 0x20 ≤ b.toNat) →
    ∃ t, deliverAll (writeText chars) s = .next t ∧
      (∀ i, i < min chars.length 50 → t.cell? i = chars[i]?) ∧ (∀ i, min chars.length 50 ≤ i → t.cell? i = s.cell? i) ∧
      t.writeIndex = min chars.length 50 ∧ t.proto = .idle ∧ t.windowOffset = 0 ∧
      t.length = (if s.cfg.stopCommitsLength = true then min chars.length 50 else s.length)

/-- 40_bus_slave.md R115: after `SLA_R` and `k` acknowledged bytes `txData` is `TxByte(r0 + k)`, each byte past cell 49 a free value of its
own; the `DATA_TX_NACK` ends the read; nothing the display or a later write depends on has changed. The counter
behind the free values is the model's (log entry 4). -/
def Obligations.ReadStreamBytes : Prop :=
  ∀ (s : State) (k : Nat), ∃ t, deliverAll (sendEvent .slaR :: List.replicate k (sendEvent .dataTxAck)) s = .next t ∧
    t.readIndex = readStartIndex s + k ∧
    (t.readIndex < 50 → s.cell? t.readIndex = some t.txData) ∧
    (50 ≤ t.readIndex → t.txData = Config.freeByte (t.draws - 1)) ∧
    t.draws = s.draws + (readStartIndex s + k + 1 - max (readStartIndex s) 50) ∧
    exec .dataTxNack t = .next { t with proto := .idle } ∧
    SameCells s t ∧ t.length = s.length ∧ t.windowOffset = s.windowOffset ∧ t.writeIndex = s.writeIndex ∧ t.rxClosed = s.rxClosed ∧
    SameDisplay s t ∧ SameFlight s t

/-- 70_reset_and_hazards.md R226: a read after a terminated write starts at the message's length under `inherit`, and at the message's
first character under `zero`. -/
def Obligations.ReadAfterWriteCursor : Prop :=
  ∀ (s : State) (chars : List Byte),
    Memory.wf s.cfg.greeting s.mem = true → (∀ b ∈ chars, 0x20 ≤ b.toNat) →
    ∃ t, deliverAll (writeTextZ chars ++ [sendEvent .slaR]) s = .next t ∧ t.proto = .transmittingRead ∧
      (s.cfg.readStart = .inherit → t.readIndex = min chars.length 50 ∧
        (chars.length < 50 → s.cell? chars.length = some t.txData)) ∧
      (s.cfg.readStart = .zero → t.readIndex = 0 ∧ (chars ≠ [] → chars[0]? = some t.txData))

/-! The Digit Multiplexer. -/

/-- 41_digit_mux.md R141: the five steps M1 to M5, and what each leaves alone. The division into steps is the spec's own (its decision
D15). -/
def Obligations.RefreshOperationStepByStep : Prop :=
  decode 0x10000#18 = .tickRefresh ∧
  (∀ s : State, s.mux = .idle → ∃ t, exec .tickRefresh s = .next t ∧ t.pos.val = (s.pos.val + 1) % 4 ∧ t.digitSel = onehot4 t.pos ∧
    t.mux = .m1 ∧ t.seg = s.seg ∧ t.dp = s.dp ∧ SameCells s t ∧ t.length = s.length ∧ t.windowOffset = s.windowOffset ∧ SameBus s t ∧
    t.scroll = s.scroll ∧ SameSetting s t ∧ t.draws = s.draws) ∧
  (∀ s : State, s.mux = .m1 → muxStep s = .next { s with mux := .m2 s.windowOffset }) ∧
  (∀ (s : State) (w : Nat), s.mux = .m2 w → muxStep s = .next { s with mux := .m3 w s.length }) ∧
  (∀ (s : State) (w l : Nat), s.mux = .m3 w l → w + s.pos.val < 50 →
    muxStep s = .next { s with mux := .m4 w l (if w + s.pos.val < l then s.cell (w + s.pos.val) else 0x20#8) }) ∧
  (∀ (s : State) (w l : Nat) (c : Byte), s.mux = .m4 w l c → muxStep s = .next { s with seg := segOf s.cfg c, mux := .idle })

/-- 60_exceptions.md R181: an overrunning tick has no step; the model refuses it by name (log entry 7). -/
def Obligations.OverrunningTicksAreRefused : Prop :=
  ∀ s : State,
    (s.mux ≠ .idle → exec .tickRefresh s = .refused .refreshOverrun) ∧
    (s.scroll ≠ .idle → exec .tickScroll s = .refused .scrollOverrun)

/-- 41_digit_mux.md R142, R144: whole untorn refresh ticks light the positions round-robin, each with the character of the window it
shows, blank at or beyond `length`. -/
def Obligations.RefreshCycleIsRoundRobin : Prop :=
  ∀ (s : State) (k : Nat), StateInv s → s.mux = .idle →
    ∃ t, deliverAll (ticks refreshTick (k + 1)) s = .next t ∧ t.mux = .idle ∧ t.pos.val = (s.pos.val + k + 1) % 4 ∧
      t.digitSel = onehot4 t.pos ∧
      t.seg = segOf s.cfg (if s.windowOffset + t.pos.val < s.length then s.cell (s.windowOffset + t.pos.val) else 0x20#8) ∧
      SameCells s t ∧ t.length = s.length ∧ t.windowOffset = s.windowOffset ∧ SameBus s t ∧ t.scroll = s.scroll

/-- 41_digit_mux.md R143: exactly one digit is active after reset, and from a state with exactly one digit active every step leaves
exactly one digit active, the one `pos` names. -/
def Obligations.ExactlyOneDigitIsActive : Prop :=
  (∀ (c : Config) (p : Fin 4), (State.resetWith c).digitSel.getLsbD p.val = decide (p = (State.resetWith c).pos)) ∧
  ∀ s t : State, (∀ p : Fin 4, s.digitSel.getLsbD p.val = decide (p = s.pos)) → step s = .next t →
    ∀ p : Fin 4, t.digitSel.getLsbD p.val = decide (p = t.pos)

/-- 41_digit_mux.md R147: space and every unsupported byte are blank. -/
def Obligations.UnsupportedCharactersAreBlank : Prop :=
  ∀ (c : Config), configWf c = true → segOf c 0x20#8 = 0b0000000#7 ∧ ∀ b : Byte, supportedChar b = false → segOf c b = 0b0000000#7

/-- 41_digit_mux.md R146, R147: every encoder the rules admit is some admitted configuration's. -/
def Obligations.EveryAdmittedEncoderIsATable : Prop :=
  ∀ (c : Config) (f : Byte → Pattern), configWf c = true → (∀ b, supportedChar b = false → f b = 0b0000000#7) → f 0x20#8 = 0b0000000#7 →
    ∃ table, configWf { c with segTable := table } = true ∧ ∀ b, segOf { c with segTable := table } b = f b

/-- 41_digit_mux.md R148: the default table's thirteen characters, and every other byte blank. The glyphs are the spec's general knowledge
(its G9; log entry 2). -/
def Obligations.DefaultGlyphs : Prop :=
  segOf deviceConfig 0x30#8 = 0x3F#7 ∧ segOf deviceConfig 0x31#8 = 0x06#7 ∧ segOf deviceConfig 0x32#8 = 0x5B#7 ∧
  segOf deviceConfig 0x33#8 = 0x4F#7 ∧ segOf deviceConfig 0x34#8 = 0x66#7 ∧ segOf deviceConfig 0x35#8 = 0x6D#7 ∧
  segOf deviceConfig 0x36#8 = 0x7D#7 ∧ segOf deviceConfig 0x37#8 = 0x07#7 ∧ segOf deviceConfig 0x38#8 = 0x7F#7 ∧
  segOf deviceConfig 0x39#8 = 0x6F#7 ∧ segOf deviceConfig 0x20#8 = 0x00#7 ∧ segOf deviceConfig 0x5F#8 = 0x08#7 ∧
  segOf deviceConfig 0x3D#8 = 0x48#7 ∧
  ∀ b : Byte, ¬(0x30 ≤ b.toNat ∧ b.toNat ≤ 0x39) → b ≠ 0x5F#8 → b ≠ 0x3D#8 → segOf deviceConfig b = 0x00#7

/-- 41_digit_mux.md R149, 10_state.md R32: the decimal point is an output only if `HAS_DP`, and dark; the front end is told to acknowledge. -/
def Obligations.ConstantOutputs : Prop :=
  ∀ s : State, StateInv s → (outputsOf s).dp = (if s.cfg.hasDp = true then some 0#1 else none) ∧ (outputsOf s).ackEn = 1#1

/-- 20_memory.md R54, 70_reset_and_hazards.md R221: the character a refresh fetches, torn or not, is a cell below the sampled length, at an
index of at most 49, or the blank character; a cell at or beyond the sampled length is never rendered. -/
def Obligations.FetchedCharacterIsACellOrBlank : Prop :=
  ∀ (s : State) (w l : Nat), StateInv s → s.mux = .m3 w l →
    ∃ c, muxStep s = .next { s with mux := .m4 w l c } ∧ w + s.pos.val ≤ 49 ∧
      (w + s.pos.val < l → s.cell? (w + s.pos.val) = some c) ∧ (l ≤ w + s.pos.val → c = 0x20#8)

/-! The Scroll Controller. -/

/-- 42_scroll.md R161: the three steps S1 to S3, and what each leaves alone. The division into steps is the spec's own (its decision D15). -/
def Obligations.ScrollOperationStepByStep : Prop :=
  decode 0x20000#18 = .tickScroll ∧
  (∀ s : State, s.scroll = .idle → ∃ t, exec .tickScroll s = .next t ∧ t.scroll = .s1 s.length ∧ SameCells s t ∧ t.length = s.length ∧
    t.windowOffset = s.windowOffset ∧ SameBus s t ∧ SameDisplay s t ∧ t.mux = s.mux ∧ SameSetting s t ∧ t.draws = s.draws) ∧
  (∀ (s : State) (l : Nat), s.scroll = .s1 l → scrollStep s = .next { s with scroll := .s2 l s.windowOffset }) ∧
  (∀ (s : State) (l w : Nat), s.scroll = .s2 l w →
    scrollStep s = .next { s with windowOffset := scrollNext w l, scroll := .idle })

/-- 42_scroll.md R162: the scroll policy; that a length of at most four writes 0 is the spec's own (its decision D14). -/
def Obligations.ScrollPolicy : Prop :=
  ∀ w l : Nat, (l ≤ 4 → scrollNext w l = 0) ∧ (4 < l → l ≤ w + 1 + 3 → scrollNext w l = 0) ∧
    (4 < l → w + 1 + 3 < l → scrollNext w l = w + 1)

/-- 42_scroll.md R163: after an untorn scroll tick the window is right, whatever the offset was before. The rule is the spec's inference
from R162, and for a short text it rests on its decision D14. -/
def Obligations.UntornScrollTickMendsTheWindow : Prop :=
  ∀ s : State, s.scroll = .idle → ∃ t, deliverAll scrollTick s = .next t ∧ t.scroll = .idle ∧ windowOK t.length t.windowOffset ∧
    t.windowOffset = scrollNext s.windowOffset s.length ∧ t.length = s.length ∧ SameCells s t ∧ SameBus s t ∧ SameDisplay s t ∧
    t.mux = s.mux

/-- 42_scroll.md R164: with a constant length `n > 4` the offset runs through 0 to `n - 4` and returns to 0 after `n - 3` ticks. -/
def Obligations.ScrollCycleIsPeriodic : Prop :=
  ∀ (s : State) (n k : Nat), s.scroll = .idle → s.length = n → 4 < n → s.windowOffset = 0 →
    ∃ t, deliverAll (ticks scrollTick k) s = .next t ∧ t.windowOffset = k % (n - 3) ∧ t.length = n ∧ t.scroll = .idle

/-- 42_scroll.md R162, R163: a text of at most four characters stays at offset 0 after any number of scroll ticks. -/
def Obligations.ShortTextDoesNotScroll : Prop :=
  ∀ (s : State) (k : Nat), s.scroll = .idle → s.length ≤ 4 →
    ∃ t, deliverAll (ticks scrollTick (k + 1)) s = .next t ∧ t.windowOffset = 0 ∧ t.length = s.length

/-! The shared buffer, and rules of the whole machine. -/

/-- 20_memory.md R51, R52: a store replaces the byte of one cell and changes no other, and keeps the buffer's canonical form. -/
def Obligations.StoreReplacesOneCell : Prop :=
  ∀ (s : State) (i : Nat) (v : Byte), Memory.wf s.cfg.greeting s.mem = true → i < 50 →
    (s.storeCell i v).cell? i = some v ∧ (∀ j, j ≠ i → (s.storeCell i v).cell? j = s.cell? j) ∧
      Memory.wf (s.storeCell i v).cfg.greeting (s.storeCell i v).mem = true

/-- 20_memory.md R66: the range invariants, with the constants and the buffer's canonical form, are kept by every step, torn or not. -/
def Obligations.EveryStepKeepsTheInvariant : Prop := ∀ s t : State, StateInv s → step s = .next t → StateInv t

/-- 60_exceptions.md R190, R181: no step faults; the only stop is an overrunning tick (the model's refusal, log entry 7), and an enabled step
always completes. -/
def Obligations.NoStepFaults : Prop :=
  ∀ s : State, StateInv s →
    ((∃ t, step s = .next t) ∨ (step s = .refused .refreshOverrun ∧ s.mux ≠ .idle) ∨ (step s = .refused .scrollOverrun ∧ s.scroll ≠ .idle)) ∧
    (∀ x xs, s.inputs = x :: xs → enabled x s → ∃ t, step s = .next t)

/-- 20_memory.md R67: every bus operation, and reset, preserves the window invariant. -/
def Obligations.BusOperationsKeepTheWindow : Prop :=
  ∀ (i : Instr) (s t : State), agentOf i = .bus ∨ i = .reset → windowOK s.length s.windowOffset → exec i s = .next t →
    windowOK t.length t.windowOffset

/-- 20_memory.md R67, R68: under `NoBusInsideTick` every step keeps the window invariant. -/
def Obligations.WindowHoldsWithoutBusInsideTick : Prop :=
  ∀ s t : State, windowOK s.length s.windowOffset → scrollUntorn s → (∀ x xs, s.inputs = x :: xs → noBusInsideTick x s) →
    step s = .next t → windowOK t.length t.windowOffset ∧ scrollUntorn t

/-- 70_reset_and_hazards.md R222: a scroll operation torn by a terminated write, at either place between S1 and S3, for every length, offset
and text. S3 writes `ScrollNext` of the old length and of the offset sampled (the old one if S2 ran before the write, else the write's 0), so
the window of the new text is wrong exactly if that is no 0 and shows fewer than four of its characters; the next untorn tick mends it. The
places of the tear are the spec's own (its decision D15). -/
def Obligations.TornScrollBreaksTheWindow : Prop :=
  ∀ (s : State) (chars : List Byte) (d : Byte) (k : Nat),
    s.scroll = .idle → (∀ b ∈ chars, 0x20 ≤ b.toNat) → d.toNat < 0x20 → k = 1 ∨ k = 2 →
    ∃ t u, deliverAll (tornAt k (sendEvent .slaW :: chars.map sendByte ++ [sendByte d]) scrollTick) s = .next t ∧ t.scroll = .idle ∧
      t.length = min chars.length 50 ∧ t.windowOffset = scrollNext (if k = 2 then s.windowOffset else 0) s.length ∧
      (Memory.wf s.cfg.greeting s.mem = true → ∀ i, i < min chars.length 50 → t.cell? i = chars[i]?) ∧
      (¬windowOK t.length t.windowOffset ↔ t.windowOffset ≠ 0 ∧ t.length < t.windowOffset + 4) ∧
      deliverAll scrollTick t = .next u ∧ u.length = t.length ∧ u.windowOffset = scrollNext t.windowOffset t.length ∧
      windowOK u.length u.windowOffset

/-- 20_memory.md R62: a step of `MUX` (M1, a delivered refresh tick, or `muxStep`, M2 to M5) and a step of `SCROLL` (S1, a delivered scroll
tick, or `scrollStep`, S2 and S3) commute, but for the one that reads `windowOffset` (M2) against the one that writes it (S3). A tick is
delivered only while its agent is idle (R60). -/
def Obligations.MuxAndScrollStepsCommute : Prop :=
  ∀ (s : State) (x y : Input), isMuxInput x = true → isScrollInput y = true →
    (x ≠ .muxStep → s.mux = .idle) → (y ≠ .scrollStep → s.scroll = .idle) → ¬(s.mux = .m1 ∧ ∃ l w, s.scroll = .s2 l w) →
    andThen (deliver x s) (deliver y) = andThen (deliver y s) (deliver x)

/-- 20_memory.md R55: the single-writer policy. The tick agents write neither the buffer nor `length`; `MUX` (M1 as well as M2 to M5) writes no
shared state; `SCROLL` writes no display register; `BUS` writes only 0 to `windowOffset`. -/
def Obligations.SingleWriterPolicy : Prop :=
  ∀ (x : Input) (s t : State), deliver x s = .next t → isResetInput x = false →
    (isBusInput x = false → SameCells s t ∧ t.length = s.length ∧ SameBus s t) ∧
    (isBusInput x = true → t.windowOffset = s.windowOffset ∨ t.windowOffset = 0) ∧
    (isMuxInput x = true → SameCells s t ∧ t.length = s.length ∧ t.windowOffset = s.windowOffset ∧ t.scroll = s.scroll) ∧
    (isScrollInput x = true → SameCells s t ∧ t.length = s.length ∧ SameDisplay s t ∧ t.mux = s.mux)

/-- 20_memory.md R56: outside a write transaction no bus operation changes the buffer or `length`; a cell changes only by `DATA_RX`, `length`
only by `DATA_RX` or by `STOP_RSTART` under `STOP_COMMITS_LENGTH`, and that only in `ReceivingWrite`, which only `SLA_W` enters; and between
the `SLA_W` and the commit `length` is the old one while the first `writeIndex` cells are the new message's. -/
def Obligations.WriterActsOnlyInAWrite : Prop :=
  (∀ (i : Instr) (s : State), agentOf i = .bus → s.proto ≠ .receivingWrite →
    ∃ t, exec i s = .next t ∧ SameCells s t ∧ t.length = s.length) ∧
  (∀ (x : Input) (s t : State), deliver x s = .next t → isResetInput x = false →
    (SameCells s t ∨ s.proto = .receivingWrite ∧ ∃ d, busEventOf x = some (.dataRxChar d)) ∧
    (t.length = s.length ∨ s.proto = .receivingWrite ∧
      ((∃ d, busEventOf x = some (.dataRxTerm d)) ∨ busEventOf x = some .stopRstart ∧ s.cfg.stopCommitsLength = true)) ∧
    (t.proto = .receivingWrite → s.proto = .receivingWrite ∨ busEventOf x = some .slaW)) ∧
  (∀ (s t : State) (ys : List Input), Memory.wf s.cfg.greeting s.mem = true → ys.all keepsWriteOpen = true →
    deliverAll (sendEvent .slaW :: ys) s = .next t →
    t.length = s.length ∧ t.writeIndex = min ((ys.filterMap busEventOf).filterMap charOf).length 50 ∧
      (∀ i, i < t.writeIndex → t.cell? i = ((ys.filterMap busEventOf).filterMap charOf)[i]?) ∧
      (∀ i, t.writeIndex ≤ i → t.cell? i = s.cell? i))

/-- 00_scope.md R6, 10_state.md R33: no step changes the configuration. -/
def Obligations.ConfigurationIsFixed : Prop := ∀ s t : State, step s = .next t → t.cfg = s.cfg

/-! The bus front end's contract. -/

/-- 40_bus_slave.md R121: the address byte selects `SLA_W` or `SLA_R` when bits 7..1 are `SLAVE_ADDR`, and is acknowledged; else
nothing is delivered and nothing acknowledged. Where `SLAVE_ADDR` is the general call's address, see log entry 9. -/
def Obligations.FrontEndMatchesItsAddress : Prop :=
  ∀ (c : Config) (b : Byte), c.slaveAddr ≠ 0#7 →
    (b.extractLsb' 1 7 = c.slaveAddr → b.getLsbD 0 = false →
      frontEvent c .addressing (.byte b) = some (encode .slaW) ∧ frontNext c .addressing (.byte b) = .receiving ∧
        frontAcks c .addressing (.byte b) = true) ∧
    (b.extractLsb' 1 7 = c.slaveAddr → b.getLsbD 0 = true →
      frontEvent c .addressing (.byte b) = some (encode .slaR) ∧ frontNext c .addressing (.byte b) = .transmitting ∧
        frontAcks c .addressing (.byte b) = true) ∧
    (b.extractLsb' 1 7 ≠ c.slaveAddr →
      frontEvent c .addressing (.byte b) = none ∧ frontNext c .addressing (.byte b) = .unaddressed ∧
        frontAcks c .addressing (.byte b) = false)

/-- 40_bus_slave.md R122, R123 (the spec's general knowledge, its G6, G7): what the front end delivers, for any wire activity in which the
master ends its reads, is the beginning of a well-formed session. `txData` is never shifted out before an `SLA_R` has written it: until then
its value makes no difference to what the master sees, whatever happens on the bus and in the block (that a `RESET` in the middle of a read
leaves the front end transmitting, the reset's free byte among what it then shifts out, is the model's choice, log entry 13). And a read of `k + 1` bytes on the bus
shows the master an acknowledge and then `TxByte(r0)` to `TxByte(r0 + k)`, each as `txData` stood after its `SLA_R` or `DATA_TX_ACK`; the
counter behind the free values is the model's (log entry 4). -/
def Obligations.FrontEndDeliversSessions : Prop :=
  (∀ (c : Config) (ws : List Wire), masterEndsReads c .unaddressed ws = true →
    sessionGoesOn .between ((frontEvents c .unaddressed ws).map decode) = true) ∧
  (∀ (ms : List Moment) (p : FrontPhase) (s : State) (x : Byte) (ds : List Driven), p ≠ .transmitting →
    masterSees (attachedRun ms { phase := p, block := { s with txData := x }, driven := ds }) =
      masterSees (attachedRun ms { phase := p, block := s, driven := ds })) ∧
  (∀ (s : State) (b : Byte) (k : Nat), StateInv s → s.cfg.slaveAddr ≠ 0#7 → b.extractLsb' 1 7 = s.cfg.slaveAddr → b.getLsbD 0 = true →
    ∃ a, attachedRun (readOnTheBus b k) { phase := .unaddressed, block := s, driven := [] } = .next a ∧ a.phase = .unaddressed ∧
      a.block.proto = .idle ∧ a.driven.length = k + 2 ∧ a.driven[0]? = some (.ack 1#1) ∧
      ∀ j, j ≤ k → a.driven[j + 1]? = some (.shifted
        (if readStartIndex s + j < 50 then s.cell (readStartIndex s + j)
          else Config.freeByte (s.draws + (readStartIndex s + j - max (readStartIndex s) 50)))))

/-! Who stores. -/

/-- 20_memory.md R51: a cell changes only by `DATA_RX` of a byte of 0x20 or more, only cell `writeIndex`, only while that is below 50; the store
replaces that byte and, with the count of 40_bus_slave.md R102, changes nothing else. -/
def Obligations.OnlyDataRxStores : Prop :=
  ∀ (x : Input) (s t : State), Memory.wf s.cfg.greeting s.mem = true → deliver x s = .next t → isResetInput x = false →
    SameCells s t ∨
    ∃ d, busEventOf x = some (.dataRxChar d) ∧ 0x20 ≤ d.toNat ∧ s.writeIndex < 50 ∧ t.cell? s.writeIndex = some d ∧
      (∀ i, i ≠ s.writeIndex → t.cell? i = s.cell? i) ∧ t = { s with mem := t.mem, writeIndex := s.writeIndex + 1 }
end

