-- ==== Sys2Proof/Laws/Decode.lean ====
section
/-! SUPPORT. The fields of a word, and that every decoded event is well-formed (30_encoding.md R85). -/

namespace Sys2Proof

@[simp] theorem evSrc_evWord (src : BitVec 2) (cc d : Byte) : evSrc (evWord src cc d) = src := by
  ext i hi
  interval_cases i <;> simp [evSrc, evWord]

@[simp] theorem evCode_evWord (src : BitVec 2) (cc d : Byte) : evCode (evWord src cc d) = cc := by
  ext i hi
  interval_cases i <;> simp [evCode, evWord]

@[simp] theorem evData_evWord (src : BitVec 2) (cc d : Byte) : evData (evWord src cc d) = d := by
  ext i hi
  interval_cases i <;> simp [evData, evWord]

theorem isTerminator_iff (d : Byte) : isTerminator d = true ↔ d.toNat < 0x20 := by
  simp [isTerminator]

theorem decodeBus_wf (cc d : Byte) : (decodeBus cc d).wf = true := by
  unfold decodeBus
  split_ifs with h1 h2 h3 h4 h5 h6 h7 <;> simp_all [Instr.wf, recognisedCode, isTerminator]

/-- Every word decodes to a well-formed event. -/
theorem decode_wf (ev : EventWord) : (decode ev).wf = true := by
  unfold decode
  split_ifs
  · exact decodeBus_wf _ _
  · rfl
  · rfl
  · rfl

end Sys2Proof
end

