-- ==== Sys2Proof/Laws/FrontEnd.lean ====
section
/-! SUPPORT. The block on the bus: a run one moment at a time, and which event the byte shifted out waits for. -/

namespace Sys2Proof.Machine

@[simp] theorem attachedRun_nil (a : Attached) : attachedRun [] a = .next a := rfl

/-- A run whose first moment answers a next state goes on from there. -/
theorem attachedRun_cons_next {m : Moment} {ms : List Moment} {a b : Attached} (h : attachedMoment m a = .next b) :
    attachedRun (m :: ms) a = attachedRun ms b := by
  rw [attachedRun, h]

@[simp] theorem attachedAfter_next (t : State) (f : State → Attached) : attachedAfter (.next t) f = .next (f t) := rfl

@[simp] theorem masterSees_next (a : Attached) : masterSees (.next a) = some a.driven := rfl

/-- The front end shifts a byte out only for an `SLA_R`, or, while the slave transmits, for a `DATA_TX_ACK` (40_bus_slave.md R122). -/
theorem frontShifts_cases {c : Config} {p : FrontPhase} {w : Wire} (h : frontShifts c p w = true) :
    (p = .addressing ∧ frontEvent c p w = some (encode .slaR)) ∨
    (p = .transmitting ∧ frontEvent c p w = some (encode .dataTxAck)) := by
  cases p <;> cases w
  case addressing.byte b => simp_all [frontShifts, frontEvent]
  case transmitting.reply acked => cases acked <;> simp_all [frontShifts, frontEvent]
  all_goals cases h

end Sys2Proof.Machine
end

