-- ==== Sys2Proof/Laws/Memory.lean ====
section
/-! SUPPORT. The buffer as a canonical list: a read after a write, and that a write keeps the canonical form (20_memory.md R51, R52). -/

namespace Sys2Proof.Machine

/-- `CAPACITY` as the numeral, for simp and omega (00_scope.md R6). -/
@[simp] theorem capacity_eq : capacity = 50 := rfl

theorem Memory.wfFrom_cons {g : List Byte} {lo a : Nat} {v : Byte} {m : Memory} :
    Memory.wfFrom g lo ((a, v) :: m) = true ↔
      lo ≤ a ∧ a < capacity ∧ Memory.unlisted g a ≠ some v ∧ Memory.wfFrom g (a + 1) m = true := by
  simp [Memory.wfFrom, and_assoc]

theorem Memory.wfFrom_mono {g : List Byte} {m : Memory} {lo lo' : Nat} (hle : lo' ≤ lo) (h : Memory.wfFrom g lo m = true) :
    Memory.wfFrom g lo' m = true := by
  cases m with
  | nil => rfl
  | cons e m =>
    obtain ⟨h1, h2⟩ := Memory.wfFrom_cons.mp h
    exact Memory.wfFrom_cons.mpr ⟨hle.trans h1, h2⟩

/-- Nothing is listed below the lower bound of a canonical list. -/
theorem Memory.lookup_below {g : List Byte} {m : Memory} {lo i : Nat} (h : Memory.wfFrom g lo m = true) (hi : i < lo) :
    Memory.lookup m i = none := by
  induction m generalizing lo with
  | nil => rfl
  | cons e m ih =>
    obtain ⟨a, v⟩ := e
    obtain ⟨h1, -, -, h4⟩ := Memory.wfFrom_cons.mp h
    rw [Memory.lookup, if_neg (by omega)]
    exact ih h4 (by omega)

theorem Memory.lookup_insert (m : Memory) (i j : Nat) (v : Byte) :
    Memory.lookup (Memory.insert m i v) j = if i = j then some v else Memory.lookup m j := by
  induction m with
  | nil => simp [Memory.insert, Memory.lookup]
  | cons e m ih =>
    obtain ⟨a, w⟩ := e
    unfold Memory.insert
    split_ifs with h1 h2 h3 h4 h5 <;> simp_all [Memory.lookup]
    omega

theorem Memory.lookup_erase_other (m : Memory) {i j : Nat} (h : i ≠ j) :
    Memory.lookup (Memory.erase m i) j = Memory.lookup m j := by
  induction m with
  | nil => rfl
  | cons e m ih =>
    obtain ⟨a, w⟩ := e
    unfold Memory.erase
    split_ifs with h1
    · subst h1; simp [Memory.lookup, h]
    · simp [Memory.lookup, ih]

theorem Memory.lookup_erase_same {g : List Byte} {m : Memory} {lo : Nat} (h : Memory.wfFrom g lo m = true) (i : Nat) :
    Memory.lookup (Memory.erase m i) i = none := by
  induction m generalizing lo with
  | nil => rfl
  | cons e m ih =>
    obtain ⟨a, w⟩ := e
    obtain ⟨-, -, -, h4⟩ := Memory.wfFrom_cons.mp h
    unfold Memory.erase
    split_ifs with h1
    · subst h1; exact Memory.lookup_below h4 (by omega)
    · simp [Memory.lookup, h1, ih h4]

theorem Memory.wfFrom_erase {g : List Byte} {m : Memory} {lo : Nat} (h : Memory.wfFrom g lo m = true) (i : Nat) :
    Memory.wfFrom g lo (Memory.erase m i) = true := by
  induction m generalizing lo with
  | nil => rfl
  | cons e m ih =>
    obtain ⟨a, w⟩ := e
    obtain ⟨h1, h2, h3, h4⟩ := Memory.wfFrom_cons.mp h
    unfold Memory.erase
    split_ifs with h5
    · exact Memory.wfFrom_mono (by omega) h4
    · exact Memory.wfFrom_cons.mpr ⟨h1, h2, h3, ih h4⟩

theorem Memory.wfFrom_insert {g : List Byte} {m : Memory} {lo i : Nat} {v : Byte} (h : Memory.wfFrom g lo m = true) (hlo : lo ≤ i)
    (hi : i < capacity) (hv : Memory.unlisted g i ≠ some v) : Memory.wfFrom g lo (Memory.insert m i v) = true := by
  induction m generalizing lo with
  | nil => exact Memory.wfFrom_cons.mpr ⟨hlo, hi, hv, rfl⟩
  | cons e m ih =>
    obtain ⟨a, w⟩ := e
    obtain ⟨h1, h2, h3, h4⟩ := Memory.wfFrom_cons.mp h
    unfold Memory.insert
    split_ifs with h5 h6
    · exact Memory.wfFrom_cons.mpr ⟨hlo, hi, hv, Memory.wfFrom_cons.mpr ⟨h5, h2, h3, h4⟩⟩
    · subst h6; exact Memory.wfFrom_cons.mpr ⟨hlo, hi, hv, h4⟩
    · exact Memory.wfFrom_cons.mpr ⟨h1, h2, h3, ih h4 (by omega)⟩

/-- A read after a write to the same address gives the value written. -/
theorem Memory.read_write_same {g : List Byte} {m : Memory} (h : Memory.wf g m = true) (i : Nat) (v : Byte) :
    Memory.read g (Memory.write g m i v) i = some v := by
  unfold Memory.write Memory.read
  split_ifs with h1
  · simp [Memory.lookup_erase_same h, h1]
  · simp [Memory.lookup_insert]

/-- A write leaves every other address alone. -/
theorem Memory.read_write_other (g : List Byte) (m : Memory) {i j : Nat} (v : Byte) (h : i ≠ j) :
    Memory.read g (Memory.write g m i v) j = Memory.read g m j := by
  unfold Memory.write Memory.read
  split_ifs with h1
  · rw [Memory.lookup_erase_other m h]
  · simp [Memory.lookup_insert, h]

/-- A write below the capacity keeps the canonical form. -/
theorem Memory.wf_write {g : List Byte} {m : Memory} (h : Memory.wf g m = true) {i : Nat} (hi : i < capacity) (v : Byte) :
    Memory.wf g (Memory.write g m i v) = true := by
  unfold Memory.write
  split_ifs with h1
  · exact Memory.wfFrom_erase h i
  · exact Memory.wfFrom_insert h (Nat.zero_le i) hi h1

/-- The reset memory, with nothing listed, is canonical. -/
theorem Memory.wf_nil (g : List Byte) : Memory.wf g [] = true := rfl

end Sys2Proof.Machine
end

