-- ==== Sys2Proof/Laws/State.lean ====
section
/-! SUPPORT. One lemma for each field of `State` under each named update, true by unfolding, for simp. -/

namespace Sys2Proof.Machine

/-! `State.storeCell` (20_memory.md R51). -/

@[simp] theorem State.storeCell_cfg (s : State) (i : Nat) (v : Byte) : (s.storeCell i v).cfg = s.cfg := rfl
@[simp] theorem State.storeCell_mem (s : State) (i : Nat) (v : Byte) : (s.storeCell i v).mem = Memory.write s.cfg.greeting s.mem i v := rfl
@[simp] theorem State.storeCell_length (s : State) (i : Nat) (v : Byte) : (s.storeCell i v).length = s.length := rfl
@[simp] theorem State.storeCell_windowOffset (s : State) (i : Nat) (v : Byte) : (s.storeCell i v).windowOffset = s.windowOffset := rfl
@[simp] theorem State.storeCell_writeIndex (s : State) (i : Nat) (v : Byte) : (s.storeCell i v).writeIndex = s.writeIndex := rfl
@[simp] theorem State.storeCell_rxClosed (s : State) (i : Nat) (v : Byte) : (s.storeCell i v).rxClosed = s.rxClosed := rfl
@[simp] theorem State.storeCell_readIndex (s : State) (i : Nat) (v : Byte) : (s.storeCell i v).readIndex = s.readIndex := rfl
@[simp] theorem State.storeCell_proto (s : State) (i : Nat) (v : Byte) : (s.storeCell i v).proto = s.proto := rfl
@[simp] theorem State.storeCell_pos (s : State) (i : Nat) (v : Byte) : (s.storeCell i v).pos = s.pos := rfl
@[simp] theorem State.storeCell_digitSel (s : State) (i : Nat) (v : Byte) : (s.storeCell i v).digitSel = s.digitSel := rfl
@[simp] theorem State.storeCell_seg (s : State) (i : Nat) (v : Byte) : (s.storeCell i v).seg = s.seg := rfl
@[simp] theorem State.storeCell_dp (s : State) (i : Nat) (v : Byte) : (s.storeCell i v).dp = s.dp := rfl
@[simp] theorem State.storeCell_txData (s : State) (i : Nat) (v : Byte) : (s.storeCell i v).txData = s.txData := rfl
@[simp] theorem State.storeCell_ackEn (s : State) (i : Nat) (v : Byte) : (s.storeCell i v).ackEn = s.ackEn := rfl
@[simp] theorem State.storeCell_mux (s : State) (i : Nat) (v : Byte) : (s.storeCell i v).mux = s.mux := rfl
@[simp] theorem State.storeCell_scroll (s : State) (i : Nat) (v : Byte) : (s.storeCell i v).scroll = s.scroll := rfl
@[simp] theorem State.storeCell_inputs (s : State) (i : Nat) (v : Byte) : (s.storeCell i v).inputs = s.inputs := rfl
@[simp] theorem State.storeCell_draws (s : State) (i : Nat) (v : Byte) : (s.storeCell i v).draws = s.draws := rfl
@[simp] theorem State.storeCell_epoch (s : State) (i : Nat) (v : Byte) : (s.storeCell i v).epoch = s.epoch := rfl

/-! `State.commitLength` (40_bus_slave.md R103, R108). -/

@[simp] theorem State.commitLength_cfg (s : State) : s.commitLength.cfg = s.cfg := rfl
@[simp] theorem State.commitLength_mem (s : State) : s.commitLength.mem = s.mem := rfl
@[simp] theorem State.commitLength_length (s : State) : s.commitLength.length = s.writeIndex := rfl
@[simp] theorem State.commitLength_windowOffset (s : State) : s.commitLength.windowOffset = 0 := rfl
@[simp] theorem State.commitLength_writeIndex (s : State) : s.commitLength.writeIndex = s.writeIndex := rfl
@[simp] theorem State.commitLength_rxClosed (s : State) : s.commitLength.rxClosed = s.rxClosed := rfl
@[simp] theorem State.commitLength_readIndex (s : State) : s.commitLength.readIndex = s.readIndex := rfl
@[simp] theorem State.commitLength_proto (s : State) : s.commitLength.proto = s.proto := rfl
@[simp] theorem State.commitLength_pos (s : State) : s.commitLength.pos = s.pos := rfl
@[simp] theorem State.commitLength_digitSel (s : State) : s.commitLength.digitSel = s.digitSel := rfl
@[simp] theorem State.commitLength_seg (s : State) : s.commitLength.seg = s.seg := rfl
@[simp] theorem State.commitLength_dp (s : State) : s.commitLength.dp = s.dp := rfl
@[simp] theorem State.commitLength_txData (s : State) : s.commitLength.txData = s.txData := rfl
@[simp] theorem State.commitLength_ackEn (s : State) : s.commitLength.ackEn = s.ackEn := rfl
@[simp] theorem State.commitLength_mux (s : State) : s.commitLength.mux = s.mux := rfl
@[simp] theorem State.commitLength_scroll (s : State) : s.commitLength.scroll = s.scroll := rfl
@[simp] theorem State.commitLength_inputs (s : State) : s.commitLength.inputs = s.inputs := rfl
@[simp] theorem State.commitLength_draws (s : State) : s.commitLength.draws = s.draws := rfl
@[simp] theorem State.commitLength_epoch (s : State) : s.commitLength.epoch = s.epoch := rfl

/-! `State.enter` (10_state.md R27). -/

@[simp] theorem State.enter_cfg (s : State) (p : Proto) : (s.enter p).cfg = s.cfg := rfl
@[simp] theorem State.enter_mem (s : State) (p : Proto) : (s.enter p).mem = s.mem := rfl
@[simp] theorem State.enter_length (s : State) (p : Proto) : (s.enter p).length = s.length := rfl
@[simp] theorem State.enter_windowOffset (s : State) (p : Proto) : (s.enter p).windowOffset = s.windowOffset := rfl
@[simp] theorem State.enter_writeIndex (s : State) (p : Proto) : (s.enter p).writeIndex = s.writeIndex := rfl
@[simp] theorem State.enter_rxClosed (s : State) (p : Proto) : (s.enter p).rxClosed = s.rxClosed := rfl
@[simp] theorem State.enter_readIndex (s : State) (p : Proto) : (s.enter p).readIndex = s.readIndex := rfl
@[simp] theorem State.enter_proto (s : State) (p : Proto) : (s.enter p).proto = p := rfl
@[simp] theorem State.enter_pos (s : State) (p : Proto) : (s.enter p).pos = s.pos := rfl
@[simp] theorem State.enter_digitSel (s : State) (p : Proto) : (s.enter p).digitSel = s.digitSel := rfl
@[simp] theorem State.enter_seg (s : State) (p : Proto) : (s.enter p).seg = s.seg := rfl
@[simp] theorem State.enter_dp (s : State) (p : Proto) : (s.enter p).dp = s.dp := rfl
@[simp] theorem State.enter_txData (s : State) (p : Proto) : (s.enter p).txData = s.txData := rfl
@[simp] theorem State.enter_ackEn (s : State) (p : Proto) : (s.enter p).ackEn = s.ackEn := rfl
@[simp] theorem State.enter_mux (s : State) (p : Proto) : (s.enter p).mux = s.mux := rfl
@[simp] theorem State.enter_scroll (s : State) (p : Proto) : (s.enter p).scroll = s.scroll := rfl
@[simp] theorem State.enter_inputs (s : State) (p : Proto) : (s.enter p).inputs = s.inputs := rfl
@[simp] theorem State.enter_draws (s : State) (p : Proto) : (s.enter p).draws = s.draws := rfl
@[simp] theorem State.enter_epoch (s : State) (p : Proto) : (s.enter p).epoch = s.epoch := rfl

/-! `State.openRx` (10_state.md R25). -/

@[simp] theorem State.openRx_cfg (s : State) : s.openRx.cfg = s.cfg := rfl
@[simp] theorem State.openRx_mem (s : State) : s.openRx.mem = s.mem := rfl
@[simp] theorem State.openRx_length (s : State) : s.openRx.length = s.length := rfl
@[simp] theorem State.openRx_windowOffset (s : State) : s.openRx.windowOffset = s.windowOffset := rfl
@[simp] theorem State.openRx_writeIndex (s : State) : s.openRx.writeIndex = s.writeIndex := rfl
@[simp] theorem State.openRx_rxClosed (s : State) : s.openRx.rxClosed = false := rfl
@[simp] theorem State.openRx_readIndex (s : State) : s.openRx.readIndex = s.readIndex := rfl
@[simp] theorem State.openRx_proto (s : State) : s.openRx.proto = s.proto := rfl
@[simp] theorem State.openRx_pos (s : State) : s.openRx.pos = s.pos := rfl
@[simp] theorem State.openRx_digitSel (s : State) : s.openRx.digitSel = s.digitSel := rfl
@[simp] theorem State.openRx_seg (s : State) : s.openRx.seg = s.seg := rfl
@[simp] theorem State.openRx_dp (s : State) : s.openRx.dp = s.dp := rfl
@[simp] theorem State.openRx_txData (s : State) : s.openRx.txData = s.txData := rfl
@[simp] theorem State.openRx_ackEn (s : State) : s.openRx.ackEn = s.ackEn := rfl
@[simp] theorem State.openRx_mux (s : State) : s.openRx.mux = s.mux := rfl
@[simp] theorem State.openRx_scroll (s : State) : s.openRx.scroll = s.scroll := rfl
@[simp] theorem State.openRx_inputs (s : State) : s.openRx.inputs = s.inputs := rfl
@[simp] theorem State.openRx_draws (s : State) : s.openRx.draws = s.draws := rfl
@[simp] theorem State.openRx_epoch (s : State) : s.openRx.epoch = s.epoch := rfl

/-! `State.closeRx` (10_state.md R25). -/

@[simp] theorem State.closeRx_cfg (s : State) : s.closeRx.cfg = s.cfg := rfl
@[simp] theorem State.closeRx_mem (s : State) : s.closeRx.mem = s.mem := rfl
@[simp] theorem State.closeRx_length (s : State) : s.closeRx.length = s.length := rfl
@[simp] theorem State.closeRx_windowOffset (s : State) : s.closeRx.windowOffset = s.windowOffset := rfl
@[simp] theorem State.closeRx_writeIndex (s : State) : s.closeRx.writeIndex = s.writeIndex := rfl
@[simp] theorem State.closeRx_rxClosed (s : State) : s.closeRx.rxClosed = true := rfl
@[simp] theorem State.closeRx_readIndex (s : State) : s.closeRx.readIndex = s.readIndex := rfl
@[simp] theorem State.closeRx_proto (s : State) : s.closeRx.proto = s.proto := rfl
@[simp] theorem State.closeRx_pos (s : State) : s.closeRx.pos = s.pos := rfl
@[simp] theorem State.closeRx_digitSel (s : State) : s.closeRx.digitSel = s.digitSel := rfl
@[simp] theorem State.closeRx_seg (s : State) : s.closeRx.seg = s.seg := rfl
@[simp] theorem State.closeRx_dp (s : State) : s.closeRx.dp = s.dp := rfl
@[simp] theorem State.closeRx_txData (s : State) : s.closeRx.txData = s.txData := rfl
@[simp] theorem State.closeRx_ackEn (s : State) : s.closeRx.ackEn = s.ackEn := rfl
@[simp] theorem State.closeRx_mux (s : State) : s.closeRx.mux = s.mux := rfl
@[simp] theorem State.closeRx_scroll (s : State) : s.closeRx.scroll = s.scroll := rfl
@[simp] theorem State.closeRx_inputs (s : State) : s.closeRx.inputs = s.inputs := rfl
@[simp] theorem State.closeRx_draws (s : State) : s.closeRx.draws = s.draws := rfl
@[simp] theorem State.closeRx_epoch (s : State) : s.closeRx.epoch = s.epoch := rfl

/-! `State.fetchTx` (20_memory.md R53). -/

@[simp] theorem State.fetchTx_cfg (s : State) (i : Nat) : (s.fetchTx i).cfg = s.cfg := rfl
@[simp] theorem State.fetchTx_mem (s : State) (i : Nat) : (s.fetchTx i).mem = s.mem := rfl
@[simp] theorem State.fetchTx_length (s : State) (i : Nat) : (s.fetchTx i).length = s.length := rfl
@[simp] theorem State.fetchTx_windowOffset (s : State) (i : Nat) : (s.fetchTx i).windowOffset = s.windowOffset := rfl
@[simp] theorem State.fetchTx_writeIndex (s : State) (i : Nat) : (s.fetchTx i).writeIndex = s.writeIndex := rfl
@[simp] theorem State.fetchTx_rxClosed (s : State) (i : Nat) : (s.fetchTx i).rxClosed = s.rxClosed := rfl
@[simp] theorem State.fetchTx_readIndex (s : State) (i : Nat) : (s.fetchTx i).readIndex = s.readIndex := rfl
@[simp] theorem State.fetchTx_proto (s : State) (i : Nat) : (s.fetchTx i).proto = s.proto := rfl
@[simp] theorem State.fetchTx_pos (s : State) (i : Nat) : (s.fetchTx i).pos = s.pos := rfl
@[simp] theorem State.fetchTx_digitSel (s : State) (i : Nat) : (s.fetchTx i).digitSel = s.digitSel := rfl
@[simp] theorem State.fetchTx_seg (s : State) (i : Nat) : (s.fetchTx i).seg = s.seg := rfl
@[simp] theorem State.fetchTx_dp (s : State) (i : Nat) : (s.fetchTx i).dp = s.dp := rfl
@[simp] theorem State.fetchTx_txData (s : State) (i : Nat) : (s.fetchTx i).txData = txByte s i := rfl
@[simp] theorem State.fetchTx_ackEn (s : State) (i : Nat) : (s.fetchTx i).ackEn = s.ackEn := rfl
@[simp] theorem State.fetchTx_mux (s : State) (i : Nat) : (s.fetchTx i).mux = s.mux := rfl
@[simp] theorem State.fetchTx_scroll (s : State) (i : Nat) : (s.fetchTx i).scroll = s.scroll := rfl
@[simp] theorem State.fetchTx_inputs (s : State) (i : Nat) : (s.fetchTx i).inputs = s.inputs := rfl
@[simp] theorem State.fetchTx_draws (s : State) (i : Nat) : (s.fetchTx i).draws = if i < capacity then s.draws else s.draws + 1 := rfl
@[simp] theorem State.fetchTx_epoch (s : State) (i : Nat) : (s.fetchTx i).epoch = s.epoch := rfl

/-! `State.drawn` (00_scope.md R9). -/

@[simp] theorem State.drawn_cfg (s : State) : s.drawn.cfg = s.cfg := rfl
@[simp] theorem State.drawn_mem (s : State) : s.drawn.mem = s.mem := rfl
@[simp] theorem State.drawn_length (s : State) : s.drawn.length = s.length := rfl
@[simp] theorem State.drawn_windowOffset (s : State) : s.drawn.windowOffset = s.windowOffset := rfl
@[simp] theorem State.drawn_writeIndex (s : State) : s.drawn.writeIndex = s.writeIndex := rfl
@[simp] theorem State.drawn_rxClosed (s : State) : s.drawn.rxClosed = s.rxClosed := rfl
@[simp] theorem State.drawn_readIndex (s : State) : s.drawn.readIndex = s.readIndex := rfl
@[simp] theorem State.drawn_proto (s : State) : s.drawn.proto = s.proto := rfl
@[simp] theorem State.drawn_pos (s : State) : s.drawn.pos = s.pos := rfl
@[simp] theorem State.drawn_digitSel (s : State) : s.drawn.digitSel = s.digitSel := rfl
@[simp] theorem State.drawn_seg (s : State) : s.drawn.seg = s.seg := rfl
@[simp] theorem State.drawn_dp (s : State) : s.drawn.dp = s.dp := rfl
@[simp] theorem State.drawn_txData (s : State) : s.drawn.txData = s.txData := rfl
@[simp] theorem State.drawn_ackEn (s : State) : s.drawn.ackEn = s.ackEn := rfl
@[simp] theorem State.drawn_mux (s : State) : s.drawn.mux = s.mux := rfl
@[simp] theorem State.drawn_scroll (s : State) : s.drawn.scroll = s.scroll := rfl
@[simp] theorem State.drawn_inputs (s : State) : s.drawn.inputs = s.inputs := rfl
@[simp] theorem State.drawn_draws (s : State) : s.drawn.draws = s.draws + 1 := rfl
@[simp] theorem State.drawn_epoch (s : State) : s.drawn.epoch = s.epoch := rfl

/-! `State.taken` (20_memory.md R60). -/

@[simp] theorem State.taken_cfg (s : State) : s.taken.cfg = s.cfg := rfl
@[simp] theorem State.taken_mem (s : State) : s.taken.mem = s.mem := rfl
@[simp] theorem State.taken_length (s : State) : s.taken.length = s.length := rfl
@[simp] theorem State.taken_windowOffset (s : State) : s.taken.windowOffset = s.windowOffset := rfl
@[simp] theorem State.taken_writeIndex (s : State) : s.taken.writeIndex = s.writeIndex := rfl
@[simp] theorem State.taken_rxClosed (s : State) : s.taken.rxClosed = s.rxClosed := rfl
@[simp] theorem State.taken_readIndex (s : State) : s.taken.readIndex = s.readIndex := rfl
@[simp] theorem State.taken_proto (s : State) : s.taken.proto = s.proto := rfl
@[simp] theorem State.taken_pos (s : State) : s.taken.pos = s.pos := rfl
@[simp] theorem State.taken_digitSel (s : State) : s.taken.digitSel = s.digitSel := rfl
@[simp] theorem State.taken_seg (s : State) : s.taken.seg = s.seg := rfl
@[simp] theorem State.taken_dp (s : State) : s.taken.dp = s.dp := rfl
@[simp] theorem State.taken_txData (s : State) : s.taken.txData = s.txData := rfl
@[simp] theorem State.taken_ackEn (s : State) : s.taken.ackEn = s.ackEn := rfl
@[simp] theorem State.taken_mux (s : State) : s.taken.mux = s.mux := rfl
@[simp] theorem State.taken_scroll (s : State) : s.taken.scroll = s.scroll := rfl
@[simp] theorem State.taken_inputs (s : State) : s.taken.inputs = s.inputs.tail := rfl
@[simp] theorem State.taken_draws (s : State) : s.taken.draws = s.draws := rfl
@[simp] theorem State.taken_epoch (s : State) : s.taken.epoch = s.epoch := rfl

/-! `State.resetFrom` (10_state.md R39). -/

@[simp] theorem State.resetFrom_cfg (c : Config) (n : Nat) (xs : List Input) : (State.resetFrom c n xs).cfg = c := rfl
@[simp] theorem State.resetFrom_mem (c : Config) (n : Nat) (xs : List Input) : (State.resetFrom c n xs).mem = [] := rfl
@[simp] theorem State.resetFrom_length (c : Config) (n : Nat) (xs : List Input) : (State.resetFrom c n xs).length = c.greeting.length := rfl
@[simp] theorem State.resetFrom_windowOffset (c : Config) (n : Nat) (xs : List Input) : (State.resetFrom c n xs).windowOffset = 0 := rfl
@[simp] theorem State.resetFrom_writeIndex (c : Config) (n : Nat) (xs : List Input) : (State.resetFrom c n xs).writeIndex = 0 := rfl
@[simp] theorem State.resetFrom_rxClosed (c : Config) (n : Nat) (xs : List Input) : (State.resetFrom c n xs).rxClosed = false := rfl
@[simp] theorem State.resetFrom_readIndex (c : Config) (n : Nat) (xs : List Input) : (State.resetFrom c n xs).readIndex = 0 := rfl
@[simp] theorem State.resetFrom_proto (c : Config) (n : Nat) (xs : List Input) : (State.resetFrom c n xs).proto = .idle := rfl
@[simp] theorem State.resetFrom_pos (c : Config) (n : Nat) (xs : List Input) : (State.resetFrom c n xs).pos = 3 := rfl
@[simp] theorem State.resetFrom_digitSel (c : Config) (n : Nat) (xs : List Input) : (State.resetFrom c n xs).digitSel = 0b1000#4 := rfl
@[simp] theorem State.resetFrom_seg (c : Config) (n : Nat) (xs : List Input) : (State.resetFrom c n xs).seg = 0#7 := rfl
@[simp] theorem State.resetFrom_dp (c : Config) (n : Nat) (xs : List Input) : (State.resetFrom c n xs).dp = 0#1 := rfl
@[simp] theorem State.resetFrom_txData (c : Config) (n : Nat) (xs : List Input) : (State.resetFrom c n xs).txData = Config.freeByte n := rfl
@[simp] theorem State.resetFrom_ackEn (c : Config) (n : Nat) (xs : List Input) : (State.resetFrom c n xs).ackEn = 1#1 := rfl
@[simp] theorem State.resetFrom_mux (c : Config) (n : Nat) (xs : List Input) : (State.resetFrom c n xs).mux = .idle := rfl
@[simp] theorem State.resetFrom_scroll (c : Config) (n : Nat) (xs : List Input) : (State.resetFrom c n xs).scroll = .idle := rfl
@[simp] theorem State.resetFrom_inputs (c : Config) (n : Nat) (xs : List Input) : (State.resetFrom c n xs).inputs = xs := rfl
@[simp] theorem State.resetFrom_draws (c : Config) (n : Nat) (xs : List Input) : (State.resetFrom c n xs).draws = n + 1 := rfl
@[simp] theorem State.resetFrom_epoch (c : Config) (n : Nat) (xs : List Input) : (State.resetFrom c n xs).epoch = n := rfl

end Sys2Proof.Machine
end

