-- ==== Sys2Proof/Laws/Ops.lean ====
section
/-! SUPPORT. What each shared operation can do, said once. -/

namespace Sys2Proof.Machine

/-- A cell's content depends on the configuration, the memory and the epoch alone. -/
theorem State.cell_congr {s t : State} (hc : t.cfg = s.cfg) (hm : t.mem = s.mem) (he : t.epoch = s.epoch) (i : Nat) :
    t.cell i = s.cell i := by
  simp [State.cell, hc, hm, he]

theorem State.cell?_congr {s t : State} (hc : t.cfg = s.cfg) (hm : t.mem = s.mem) (he : t.epoch = s.epoch) (i : Nat) :
    t.cell? i = s.cell? i := by
  simp [State.cell?, State.cell_congr hc hm he]

/-- The cell read answers exactly below 50 (20_memory.md R52). -/
theorem State.cell?_of_lt (s : State) {i : Nat} (h : i < 50) : s.cell? i = some (s.cell i) := if_pos h

theorem State.cell?_of_le (s : State) {i : Nat} (h : 50 ≤ i) : s.cell? i = none := if_neg (Nat.not_lt.mpr h)

/-- A cell reads as the byte stored into it. -/
theorem State.cell_storeCell_same {s : State} (h : Memory.wf s.cfg.greeting s.mem = true) (i : Nat) (v : Byte) :
    (s.storeCell i v).cell i = v := by
  simp [State.cell, Memory.read_write_same h]

/-- A store changes nothing but its cell (20_memory.md R51). -/
theorem State.cell_storeCell_other (s : State) {i j : Nat} (v : Byte) (h : i ≠ j) : (s.storeCell i v).cell j = s.cell j := by
  simp [State.cell, Memory.read_write_other _ _ v h]

theorem State.cell?_storeCell_other (s : State) {i j : Nat} (v : Byte) (h : i ≠ j) : (s.storeCell i v).cell? j = s.cell? j := by
  simp [State.cell?, State.cell_storeCell_other s v h]

/-- The transmit fetch below 50 is the cell (20_memory.md R53). -/
theorem txByte_of_lt (s : State) {i : Nat} (h : i < 50) : txByte s i = s.cell i := if_pos h

/-- The transmit fetch at 50 and above is the next draw (20_memory.md R53). -/
theorem txByte_of_le (s : State) {i : Nat} (h : 50 ≤ i) : txByte s i = Config.freeByte s.draws := if_neg (Nat.not_lt.mpr h)

/-- The transmit fetch depends on the configuration, the memory, the epoch and the number of the next draw alone. -/
theorem txByte_congr {s t : State} (hc : t.cfg = s.cfg) (hm : t.mem = s.mem) (he : t.epoch = s.epoch) (hd : t.draws = s.draws) (i : Nat) :
    txByte t i = txByte s i := by
  simp [txByte, State.cell_congr hc hm he, hd]

/-- The start cursor depends on the configuration and `writeIndex` alone. -/
theorem readStartIndex_congr {s t : State} (hc : t.cfg = s.cfg) (hw : t.writeIndex = s.writeIndex) :
    readStartIndex t = readStartIndex s := by
  simp [readStartIndex, hc, hw]

/-- The display fetch of an index below 50 gives the cell or the blank character (20_memory.md R54). -/
theorem visibleChar_of_lt (s : State) {i : Nat} (l : Nat) (h : i < 50) :
    visibleChar s i l = some (if i < l then s.cell i else blankChar) := by
  unfold visibleChar
  split_ifs <;> simp [State.cell?_of_lt s h]

/-- The display fetch depends on the configuration, the memory and the epoch alone. -/
theorem visibleChar_congr {s t : State} (hc : t.cfg = s.cfg) (hm : t.mem = s.mem) (he : t.epoch = s.epoch) (i l : Nat) :
    visibleChar t i l = visibleChar s i l := by
  simp [visibleChar, State.cell?_congr hc hm he]

/-- The scroll policy never leaves the range of the offset (20_memory.md R66 (c)). -/
theorem scrollNext_le (w : Nat) {l : Nat} (h : l ≤ 50) : scrollNext w l ≤ 46 := by
  unfold scrollNext
  split_ifs <;> omega

@[simp] theorem nextPos_val (p : Fin 4) : (nextPos p).val = (p.val + 1) % 4 := rfl

theorem isIdle_mux {m : MuxOp} : m.isIdle = true ↔ m = .idle := by
  cases m <;> simp [MuxOp.isIdle]

theorem isIdle_scroll {m : ScrollOp} : m.isIdle = true ↔ m = .idle := by
  cases m <;> simp [ScrollOp.isIdle]

theorem State.accepting_iff {s : State} : s.accepting = true ↔ s.proto = .receivingWrite ∧ s.rxClosed = false := by
  simp [State.accepting]

end Sys2Proof.Machine
end

