-- ==== Sys2Proof/Laws/Step.lean ====
section
/-! SUPPORT. What a step can do: one inversion lemma for each agent's steps and for each event that can stop. -/

namespace Sys2Proof.Machine

/-- Everything a `muxStep` that answers a next state can do (41_digit_mux.md R141). -/
theorem muxStep_cases {s t : State} (h : muxStep s = .next t) :
    (s.mux = .idle ∧ t = s) ∨ (s.mux = .m1 ∧ t = { s with mux := .m2 s.windowOffset }) ∨
    (∃ w, s.mux = .m2 w ∧ t = { s with mux := .m3 w s.length }) ∨
    (∃ w l c, s.mux = .m3 w l ∧ visibleChar s (w + s.pos.val) l = some c ∧ t = { s with mux := .m4 w l c }) ∨
    (∃ w l c, s.mux = .m4 w l c ∧ t = { s with seg := segOf s.cfg c, mux := .idle }) := by
  unfold muxStep at h
  split at h
  · rename_i hm; left; cases h; exact ⟨hm, rfl⟩
  · rename_i hm; right; left; cases h; exact ⟨hm, rfl⟩
  · rename_i w hm; right; right; left; cases h; exact ⟨w, hm, rfl⟩
  · rename_i w l hm
    split at h
    · rename_i c hc; right; right; right; left; cases h; exact ⟨w, l, c, hm, hc, rfl⟩
    · cases h
  · rename_i w l c hm; right; right; right; right; cases h; exact ⟨w, l, c, hm, rfl⟩

/-- Everything a `scrollStep` can do; it always answers a next state (42_scroll.md R161). -/
theorem scrollStep_cases (s : State) :
    (s.scroll = .idle ∧ scrollStep s = .next s) ∨
    (∃ l, s.scroll = .s1 l ∧ scrollStep s = .next { s with scroll := .s2 l s.windowOffset }) ∨
    (∃ l w, s.scroll = .s2 l w ∧ scrollStep s = .next { s with windowOffset := scrollNext w l, scroll := .idle }) := by
  unfold scrollStep
  cases h : s.scroll with
  | idle => exact .inl ⟨rfl, rfl⟩
  | s1 l => exact .inr (.inl ⟨l, rfl, rfl⟩)
  | s2 l w => exact .inr (.inr ⟨l, w, rfl, rfl⟩)

/-- A delivered refresh tick answers a next state exactly when no refresh operation is in flight (60_exceptions.md R181). -/
theorem execTickRefresh_next {s t : State} :
    execTickRefresh s = .next t ↔ s.mux = .idle ∧ t = { s with pos := nextPos s.pos, digitSel := onehot4 (nextPos s.pos), mux := .m1 } := by
  unfold execTickRefresh
  split_ifs with h
  · simp [isIdle_mux.mp h, eq_comm]
  · have h' : s.mux ≠ .idle := fun e => h (isIdle_mux.mpr e)
    simp [h']

/-- A delivered scroll tick answers a next state exactly when no scroll operation is in flight (60_exceptions.md R181). -/
theorem execTickScroll_next {s t : State} :
    execTickScroll s = .next t ↔ s.scroll = .idle ∧ t = { s with scroll := .s1 s.length } := by
  unfold execTickScroll
  split_ifs with h
  · simp [isIdle_scroll.mp h, eq_comm]
  · have h' : s.scroll ≠ .idle := fun e => h (isIdle_scroll.mpr e)
    simp [h']

theorem step_cons {s : State} {x : Input} {xs : List Input} (h : s.inputs = x :: xs) : step s = deliver x s.taken := by
  simp [step, h]

theorem step_nil {s : State} (h : s.inputs = []) : step s = undriven s := by
  simp [step, h]

theorem deliver_event (ev : EventWord) (s : State) : deliver (.event ev) s = exec (decode ev) s := rfl

theorem andThen_next (s : State) (f : State → Host.Outcome State Fault Refusal) : andThen (.next s) f = f s := rfl

end Sys2Proof.Machine
end

