-- ==== Sys2Proof/Laws/Inputs.lean ====
section
/-! SUPPORT. What a choice of the environment is, by the agent whose step it is: one lemma for each agent. -/

namespace Sys2Proof.Machine

/-- A step of `MUX` is `muxStep` or a delivered refresh tick, whatever bits the tick ignores. -/
theorem deliver_of_mux {x : Input} (h : isMuxInput x = true) : x = .muxStep ∨ (x ≠ .muxStep ∧ deliver x = execTickRefresh) := by
  cases x with
  | event ev =>
    refine .inr ⟨Input.noConfusion, funext fun s => ?_⟩
    simp only [isMuxInput, decide_eq_true_eq] at h
    rw [deliver_event]
    generalize decode ev = i at h
    cases i <;> first | rfl | cases h
  | muxStep => exact .inl rfl
  | scrollStep => cases h

/-- A step of `SCROLL` is `scrollStep` or a delivered scroll tick, whatever bits the tick ignores. -/
theorem deliver_of_scroll {x : Input} (h : isScrollInput x = true) :
    x = .scrollStep ∨ (x ≠ .scrollStep ∧ deliver x = execTickScroll) := by
  cases x with
  | event ev =>
    refine .inr ⟨Input.noConfusion, funext fun s => ?_⟩
    simp only [isScrollInput, decide_eq_true_eq] at h
    rw [deliver_event]
    generalize decode ev = i at h
    cases i <;> first | rfl | cases h
  | muxStep => cases h
  | scrollStep => exact .inl rfl

/-- A choice that delivers a bus event runs that event's operation. -/
theorem deliver_of_bus {x : Input} {i : Instr} (h : busEventOf x = some i) (s : State) : deliver x s = exec i s ∧ agentOf i = .bus := by
  cases x with
  | event ev =>
    simp only [busEventOf] at h
    split_ifs at h with ha
    cases h
    exact ⟨rfl, ha⟩
  | muxStep => cases h
  | scrollStep => cases h

/-- The next state of a chain comes from a next state of its first part. -/
theorem andThen_eq_next {o : Host.Outcome State Fault Refusal} {f : State → Host.Outcome State Fault Refusal} {t : State}
    (h : andThen o f = .next t) : ∃ s, o = .next s ∧ f s = .next t := by
  cases o with
  | next s => exact ⟨s, rfl, h⟩
  | fault r => cases h
  | refused r => cases h

end Sys2Proof.Machine
end

