-- ==== Sys2Proof/Laws/PerInstr.lean ====
section
/-! SUPPORT. The family `SourceField`: the `src` field of an event's canonical word names the agent that reacts (30_encoding.md R82, R84). -/

namespace Sys2Proof.Laws

/-- The `src` field of the canonical word of `i` is the one that selects `i`'s agent. -/
def SourceField.Statement (i : Instr) : Prop := evSrc (encode i) = srcOf (agentOf i)

theorem SourceField.slaW : SourceField.Statement .slaW := evSrc_evWord _ _ _
theorem SourceField.dataRxTerm (d : Byte) : SourceField.Statement (.dataRxTerm d) := evSrc_evWord _ _ _
theorem SourceField.dataRxChar (d : Byte) : SourceField.Statement (.dataRxChar d) := evSrc_evWord _ _ _
theorem SourceField.stopRstart : SourceField.Statement .stopRstart := evSrc_evWord _ _ _
theorem SourceField.slaR : SourceField.Statement .slaR := evSrc_evWord _ _ _
theorem SourceField.dataTxAck : SourceField.Statement .dataTxAck := evSrc_evWord _ _ _
theorem SourceField.dataTxNack : SourceField.Statement .dataTxNack := evSrc_evWord _ _ _
theorem SourceField.busOther (cc : Byte) : SourceField.Statement (.busOther cc) := evSrc_evWord _ _ _
theorem SourceField.tickRefresh : SourceField.Statement .tickRefresh := evSrc_evWord _ _ _
theorem SourceField.tickScroll : SourceField.Statement .tickScroll := evSrc_evWord _ _ _
theorem SourceField.reset : SourceField.Statement .reset := evSrc_evWord _ _ _

end Sys2Proof.Laws
end

