-- ==== Sys2Proof/Laws/Run.lean ====
section
/-! SUPPORT. Runs of the machine, and deliveries of a list of choices, one choice at a time. -/

namespace Sys2Proof.Machine

/-- A run of one step more, of any machine: the step, and then the run where it answers a next state. -/
theorem run_succ (M : Host.Core) (n : Nat) (s : M.State) :
    M.run (n + 1) s =
      (match M.step s with
        | .next s' => M.run n s'
        | .fault r => .fault r
        | .refused r => .refused r) := rfl

/-- A run of one step more is that step and then the run. -/
theorem core_run_succ (n : Nat) (s : State) : Host.Core.run core (n + 1) s = andThen (step s) (Host.Core.run core n) := by
  refine (run_succ core n s).trans ?_
  show _ = andThen (core.step s) (Host.Core.run core n)
  cases core.step s <;> rfl

theorem core_run_zero (s : State) : Host.Core.run core 0 s = .next s := rfl

@[simp] theorem deliverAll_nil (s : State) : deliverAll [] s = .next s := rfl

theorem deliverAll_cons (x : Input) (xs : List Input) (s : State) :
    deliverAll (x :: xs) s = andThen (deliver x s) (deliverAll xs) := rfl

theorem andThen_assoc (o : Host.Outcome State Fault Refusal) (f g : State → Host.Outcome State Fault Refusal) :
    andThen (andThen o f) g = andThen o (fun s => andThen (f s) g) := by
  cases o <;> rfl

/-- Two lists of choices are delivered one after the other. -/
theorem deliverAll_append (xs ys : List Input) (s : State) :
    deliverAll (xs ++ ys) s = andThen (deliverAll xs s) (deliverAll ys) := by
  induction xs generalizing s with
  | nil => rfl
  | cons x xs ih =>
    rw [List.cons_append, deliverAll_cons, deliverAll_cons, andThen_assoc]
    congr 1
    funext t
    exact ih t

/-- A list of choices whose first one answers a next state. -/
theorem deliverAll_cons_next {x : Input} {xs : List Input} {s t : State} (h : deliver x s = .next t) :
    deliverAll (x :: xs) s = deliverAll xs t := by
  rw [deliverAll_cons, h, andThen_next]

/-- Delivery in two parts, the first of which answers a next state. -/
theorem deliverAll_append_next {xs ys : List Input} {s t : State} (h : deliverAll xs s = .next t) :
    deliverAll (xs ++ ys) s = deliverAll ys t := by
  rw [deliverAll_append, h, andThen_next]

end Sys2Proof.Machine
end

