-- ==== Sys2Proof/Tests/Slice0.lean ====
section
/-! SUPPORT. Small tests, each on one step (or one whole tick) of a small state, with the results of spec/95_test_vectors.md; and for each
statement with hypotheses a concrete state and operands that meet all of them. -/

open Sys2Proof Sys2Proof.Machine

namespace Sys2Proof.Tests

/-- The configuration of 95_test_vectors.md's vectors, with the greeting "1234" of its B1. -/
def conf : Config where
  slaveAddr := 0x29#7
  greeting := [0x31#8, 0x32#8, 0x33#8, 0x34#8]
  segTable := defaultSegTable
  hasDp := false
  readStart := .inherit
  stopCommitsLength := false
  refreshPeriod := 0
  scrollPeriod := 0

/-- The state after reset with the greeting "1234". -/
def fresh : State := State.resetWith conf

/-- The same with `STOP_COMMITS_LENGTH` set. -/
def freshCommitting : State := State.resetWith { conf with stopCommitsLength := true }

/-- A write transaction under way, `n` bytes in, with the length of an earlier text. -/
def writing (n l : Nat) : State := { fresh with proto := .receivingWrite, writeIndex := n, length := l }

/-- A read transaction under way at cell `i`. -/
def reading (i : Nat) : State := { fresh with proto := .transmittingRead, readIndex := i }

/-- A view of the next state of an outcome, if it has one. -/
def seen {α : Type} (f : State → α) (o : Host.Outcome State Fault Refusal) : Option α :=
  match o with
  | .next s => some (f s)
  | .fault _ => none
  | .refused _ => none

/-- The columns of 95_test_vectors.md's bus table but `txData`. -/
structure Columns where
  proto : Proto
  rxClosed : Bool
  writeIndex : Nat
  length : Nat
  windowOffset : Nat
  readIndex : Nat
deriving DecidableEq, Repr

/-- Those columns of a state. -/
def columns (s : State) : Columns := ⟨s.proto, s.rxClosed, s.writeIndex, s.length, s.windowOffset, s.readIndex⟩

/-! What is no event: each check of `Instr.wf` refuses a term (30_encoding.md R84, R86). -/

theorem smoke_term_printable : (Instr.dataRxTerm 0x20#8).wf = false := by decide
theorem smoke_char_control : (Instr.dataRxChar 0x1F#8).wf = false := by decide
theorem smoke_other_recognised :
    ([0x60#8, 0x80#8, 0xA0#8, 0xA8#8, 0xB8#8, 0xC0#8].map (fun cc => (Instr.busOther cc).wf)) = List.replicate 6 false := by decide
theorem smoke_operands_in_range :
    (Instr.dataRxTerm 0x1F#8).wf = true ∧ (Instr.dataRxChar 0x20#8).wf = true ∧ (Instr.busOther 0xC8#8).wf = true := by decide

/-! Words, bit by bit (30_encoding.md R84, R85, R90; 95_test_vectors.md's don't-care bits). -/

theorem test_word_bus :
    decode 0b00_01100000_11111111#18 = .slaW ∧ decode 0b00_10000000_00011111#18 = .dataRxTerm 0x1F#8 ∧
    decode 0b00_10000000_00100000#18 = .dataRxChar 0x20#8 ∧ decode 0b00_10100000_00000000#18 = .stopRstart ∧
    decode 0b00_10101000_00000000#18 = .slaR ∧ decode 0b00_10111000_00000000#18 = .dataTxAck ∧
    decode 0b00_11000000_00000000#18 = .dataTxNack ∧ decode 0b00_11001000_00000000#18 = .busOther 0xC8#8 := by decide
theorem test_word_refresh : decode 0b01_10101011_11001101#18 = .tickRefresh := by decide
theorem test_word_scroll : decode 0b10_11111111_11111111#18 = .tickScroll := by decide
theorem test_word_reset : decode 0b11_10100101_10100101#18 = .reset := by decide
theorem test_table_word :
    decodeTableWord 24 0x08041 = some (.dataRxChar 0x41#8) ∧ decodeTableWord 18 0x3FFFF = some .reset ∧
    decodeTableWord 24 0x40000 = none := by decide
theorem test_reset_runs_a_word : seen columns (step (State.reset.withFetchWord 24 0x06000)) = some ⟨.receivingWrite, false, 0, State.reset.length, 0, 0⟩ := rfl

/-! One step each, with the results of 95_test_vectors.md. -/

/-- B1a. -/
theorem test_slaW :
    seen columns (exec .slaW { fresh with rxClosed := true, writeIndex := 11, length := 11, windowOffset := 5 })
      = some ⟨.receivingWrite, false, 0, 11, 0, 0⟩ := by decide
/-- B3 and B11: cell 49 is the last, and 0xFF is a character. -/
theorem test_dataRxChar_last_cell :
    seen (fun t => (t.cell? 49, t.writeIndex, t.length)) (exec (.dataRxChar 0xFF#8) (writing 49 7)) = some (some 0xFF#8, 50, 7) := by decide
/-- B4 and B9: nothing. -/
theorem test_dataRxChar_dropped :
    seen columns (exec (.dataRxChar 0x41#8) (writing 50 7)) = some (columns (writing 50 7)) ∧
    seen (fun t => (t.writeIndex, t.mem)) (exec (.dataRxChar 0x78#8) { writing 5 5 with rxClosed := true }) = some (5, []) := by decide
/-- B5. -/
theorem test_dataRxTerm :
    seen (fun t => (columns t, t.mem)) (exec (.dataRxTerm 0x1F#8) { writing 3 9 with windowOffset := 2 })
      = some (⟨.receivingWrite, true, 3, 3, 0, 0⟩, []) := by decide
/-- B10: a second terminator is nothing. -/
theorem test_dataRxTerm_again :
    seen columns (exec (.dataRxTerm 0x00#8) { writing 5 8 with rxClosed := true, windowOffset := 3 })
      = some ⟨.receivingWrite, true, 5, 8, 3, 0⟩ := by decide
/-- B15. -/
theorem test_stopRstart : seen columns (exec .stopRstart { writing 5 11 with windowOffset := 4 }) = some ⟨.idle, false, 5, 11, 4, 0⟩ := by decide
/-- B16 and B17. -/
theorem test_stopRstart_commits :
    seen columns (exec .stopRstart { freshCommitting with proto := .receivingWrite, writeIndex := 5, length := 11, windowOffset := 4 })
      = some ⟨.idle, false, 5, 5, 0, 0⟩ ∧
    seen columns (exec .stopRstart
        { freshCommitting with proto := .receivingWrite, rxClosed := true, writeIndex := 5, length := 5, windowOffset := 1 })
      = some ⟨.idle, true, 5, 5, 1, 0⟩ := by decide
/-- B33: a read may break into a write, starts at `writeIndex`, and commits nothing. -/
theorem test_slaR :
    seen (fun t => (columns t, t.txData)) (exec .slaR { freshCommitting with proto := .receivingWrite, writeIndex := 2 })
      = some (⟨.transmittingRead, false, 2, 4, 0, 2⟩, 0x33#8) := by decide
/-- B22. -/
theorem test_slaR_zero :
    seen (fun t => (t.readIndex, t.txData)) (exec .slaR { State.resetWith { conf with readStart := .zero } with writeIndex := 5 })
      = some (0, 0x31#8) := by decide
/-- The shape of B24, at a cell of the greeting. -/
theorem test_dataTxAck : seen (fun t => (columns t, t.txData, t.draws)) (exec .dataTxAck (reading 2))
    = some (⟨.transmittingRead, false, 0, 4, 0, 3⟩, 0x34#8, 1) := by decide
/-- B26: the index does not wrap, and a byte past cell 49 is a draw of its own. -/
theorem test_dataTxAck_unbounded : seen (fun t => (t.readIndex, t.draws)) (exec .dataTxAck (reading 300)) = some (301, 2) := by decide
/-- B28 and B29. -/
theorem test_dataTxNack :
    seen columns (exec .dataTxNack (reading 3)) = some ⟨.idle, false, 0, 4, 0, 3⟩ ∧
    seen columns (exec .dataTxNack (writing 2 4)) = some ⟨.receivingWrite, false, 2, 4, 0, 0⟩ := by decide
/-- B30. -/
theorem test_busOther : exec (.busOther 0x88#8) (writing 2 4) = .next (writing 2 4) := rfl
/-- 95_test_vectors.md's M1, up to its first step: the toggle; the pattern is not yet the new digit's (70_reset_and_hazards.md R223). -/
theorem test_tickRefresh :
    seen (fun t => (t.pos, t.digitSel, t.seg, t.mux)) (exec .tickRefresh { fresh with seg := 0x66#7 }) = some (0, 0b0001#4, 0x66#7, .m1) := by decide
/-- M8's third row after its toggle: the last step drives the pattern of the character fetched. -/
theorem test_muxStep_drives :
    seen (fun t => (t.seg, t.mux)) (muxStep { fresh with mux := .m4 2 6 0x35#8 }) = some (0x6D#7, .idle) := by decide
/-- 42_scroll.md R161: S1 samples the length. -/
theorem test_tickScroll : seen (fun t => (t.scroll, t.windowOffset)) (exec .tickScroll { fresh with length := 5 }) = some (.s1 5, 0) := by decide
/-- 95_test_vectors.md's table of `ScrollNext`, at its bounds. -/
theorem test_scrollNext :
    (scrollNext 0 4, scrollNext 0 5, scrollNext 1 5, scrollNext 45 50, scrollNext 46 50) = (0, 1, 0, 46, 0) := by decide
/-- 70_reset_and_hazards.md R210, from the middle of a read and of both tick operations. -/
theorem test_reset :
    seen (fun t => (columns t, t.pos, t.digitSel, t.seg, decide (t.mux = .idle ∧ t.scroll = .idle ∧ t.mem = [])))
        (exec .reset { reading 7 with pos := 1, digitSel := 0b0010#4, seg := 0x3F#7, mux := .m2 0, scroll := .s1 4, length := 9 })
      = some (⟨.idle, false, 0, 4, 0, 0⟩, 3, 0b1000#4, 0x00#7, true) := by decide

/-! Witnesses: concrete states and operands that meet the hypotheses of each statement that has some. -/

/-- The greeting "1234" with a refresh and a scroll operation in flight. -/
def busy : State := { fresh with mux := .m3 46 50, scroll := .s2 4 0 }

/-- The greeting "1234" with one event scheduled. -/
def scheduled (i : Instr) : State := { fresh with inputs := [sendEvent i] }

theorem fresh_inv : StateInv fresh := by constructor <;> trivial
theorem busy_inv : StateInv busy := by constructor <;> trivial

theorem witness_DecodeOfEncodeIsTheEvent :
    (Instr.dataRxTerm 0x1F#8).wf = true ∧ (Instr.dataRxChar 0x20#8).wf = true ∧ (Instr.busOther 0xFF#8).wf = true ∧
    Instr.reset.wf = true := by decide
theorem witness_StepRunsTheDecodedEvent : ({ fresh with inputs := [.event 0x06000#18] } : State).inputs = .event 0x06000#18 :: [] := rfl
theorem witness_StepRunsTheScheduledAgent :
    ({ busy with inputs := [.muxStep] } : State).inputs = .muxStep :: [] ∧
    ({ busy with inputs := [.scrollStep] } : State).inputs = .scrollStep :: [] := ⟨rfl, rfl⟩
theorem witness_PresentedWordRunsNext : decodeTableWord 24 0x3FFFF = some .reset ∧ decodeTableWord 18 0x06000 = some .slaW := by decide
theorem witness_QuiescentBlockIsStill : fresh.inputs = [] ∧ fresh.mux = .idle ∧ fresh.scroll = .idle := by decide
theorem witness_InFlightOperationsFinish : StateInv busy ∧ busy.inputs = [] := ⟨busy_inv, rfl⟩
theorem witness_ResetStateValues : 3 < 50 ∧ conf.greeting[3]? = some 0x34#8 ∧ conf.greeting.length ≤ 4 ∧ conf.greeting.length ≤ 49 := by decide
theorem witness_ResetEventRestartsTheBlock :
    (writing 9 9).cfg.greeting[3]? = some 0x34#8 ∧ (writing 9 9).cfg.greeting.length ≤ 49 := by decide
theorem witness_ResetStateMeetsTheInvariants : configWf conf = true ∧ configWf { conf with greeting := List.replicate 50 0x20#8 } = true := by
  decide
theorem witness_GreetingShownAfterReset : configWf conf = true ∧ 3 < 4 := by decide
theorem witness_PrintableByteIsStoredOrDropped :
    0x20 ≤ (0x20#8 : Byte).toNat ∧
    (Memory.wf (writing 49 4).cfg.greeting (writing 49 4).mem = true ∧ (writing 49 4).proto = .receivingWrite ∧
      (writing 49 4).rxClosed = false ∧ (writing 49 4).writeIndex < 50) ∧
    ¬((writing 50 4).proto = .receivingWrite ∧ (writing 50 4).rxClosed = false ∧ (writing 50 4).writeIndex < 50) := by decide
theorem witness_TerminatorCommitsTheLength :
    (0x1F#8 : Byte).toNat < 0x20 ∧ ((writing 50 4).proto = .receivingWrite ∧ (writing 50 4).rxClosed = false) ∧
    ¬(fresh.proto = .receivingWrite ∧ fresh.rxClosed = false) := by decide
theorem witness_StopEndsTheTransaction :
    (freshCommitting.cfg.stopCommitsLength = true ∧ (freshCommitting.enter .receivingWrite).proto = .receivingWrite ∧
      freshCommitting.rxClosed = false) ∧
    ¬((writing 5 4).cfg.stopCommitsLength = true ∧ (writing 5 4).proto = .receivingWrite ∧ (writing 5 4).rxClosed = false) := by decide
theorem witness_ReadMatchStartsTheStream :
    (seen (fun t => (decide (t.readIndex < 50), decide (50 ≤ t.readIndex))) (exec .slaR (writing 49 4)) = some (true, false)) ∧
    (seen (fun t => (decide (t.readIndex < 50), decide (50 ≤ t.readIndex))) (exec .slaR (writing 50 4)) = some (false, true)) := by decide
theorem witness_AcknowledgedByteAdvancesTheStream :
    ((reading 48).proto = .transmittingRead ∧ (reading 48).readIndex + 1 < 50) ∧
    ((reading 49).proto = .transmittingRead ∧ 50 ≤ (reading 49).readIndex + 1) ∧ fresh.proto ≠ .transmittingRead := by decide
theorem witness_UnacknowledgedByteEndsTheRead : (reading 3).proto = .transmittingRead ∧ (writing 2 4).proto ≠ .transmittingRead := by decide
theorem witness_OtherBusConditionChangesNothing :
    [0xC8#8, 0x61#8, 0x00#8, 0xFF#8].all
      (fun cc : Byte => cc ≠ 0x60#8 ∧ cc ≠ 0x80#8 ∧ cc ≠ 0xA0#8 ∧ cc ≠ 0xA8#8 ∧ cc ≠ 0xB8#8 ∧ cc ≠ 0xC0#8) = true := by decide
theorem witness_UnexpectedEventsChangeNothing : (reading 3).proto ≠ .receivingWrite ∧ (writing 3 4).proto ≠ .transmittingRead := by decide
theorem witness_ProtoFollowsTheTransitionTable : exec .dataTxNack (writing 2 4) = .next (writing 2 4) := rfl
theorem witness_bus_agent :
    agentOf .slaW = .bus ∧ agentOf (.dataRxChar 0x20#8) = .bus ∧ agentOf (.dataRxTerm 0x00#8) = .bus ∧ agentOf .stopRstart = .bus ∧
    agentOf .slaR = .bus ∧ agentOf .dataTxAck = .bus ∧ agentOf .dataTxNack = .bus ∧ agentOf (.busOther 0x00#8) = .bus := by decide
theorem witness_BusLeavesTheDisplayAlone : agentOf .stopRstart = .bus := rfl
/-- A commit changes both registers here, so both clauses about the registers written are met. -/
theorem witness_BusReadsNeitherLengthNorOffset :
    agentOf (.dataRxTerm 0x00#8) = .bus ∧
    seen (fun t => (decide (t.length ≠ 20), decide (t.windowOffset ≠ 5))) (exec (.dataRxTerm 0x00#8) { writing 3 20 with windowOffset := 5 })
      = some (true, true) := by decide
theorem witness_BusReadsNoDisplayState : agentOf .slaR = .bus := rfl

/-- Inside a write: two characters, a refresh tick and an unrecognised code. -/
def uncommitted : List Input := [sendByte 0x41#8, sendEvent .tickRefresh, .event 0x08800#18, sendByte 0x20#8]

/-- A write of "7" with a refresh and a scroll operation under way around it. -/
def tornWrite : List Input := [sendEvent .tickRefresh, sendEvent .slaW, .muxStep, sendEvent .tickScroll, sendByte 0x37#8, .scrollStep]

theorem witness_TerminatedWriteUnderAnyInterleaving :
    ∃ t, Memory.wf fresh.cfg.greeting fresh.mem = true ∧
      tornWrite.filterMap busEventOf = .slaW :: [0x37#8].map .dataRxChar ∧ tornWrite.all (fun x => !isResetInput x) = true ∧
      decode 0x08000#18 = .dataRxTerm 0x00#8 ∧ deliverAll (tornWrite ++ [.event 0x08000#18]) fresh = .next t :=
  ⟨_, by decide, by decide, by decide, by decide, rfl⟩
theorem witness_TerminatedWriteCompletes :
    Memory.wf fresh.cfg.greeting fresh.mem = true ∧ (∀ b ∈ List.replicate 60 0x41#8, 0x20 ≤ b.toNat) ∧ (0x1F#8 : Byte).toNat < 0x20 := by
  decide
theorem witness_UnterminatedWriteResult :
    Memory.wf freshCommitting.cfg.greeting freshCommitting.mem = true ∧ (∀ b ∈ [0xFF#8, 0x20#8], 0x20 ≤ b.toNat) := by decide
theorem witness_ReadStreamBytes :
    (seen (fun t => decide (t.readIndex < 50)) (deliverAll [sendEvent .slaR, sendEvent .dataTxAck] (writing 48 4)) = some true) ∧
    (seen (fun t => decide (50 ≤ t.readIndex)) (deliverAll [sendEvent .slaR, sendEvent .dataTxAck] (writing 49 4)) = some true) := by decide
theorem witness_ReadAfterWriteCursor :
    Memory.wf fresh.cfg.greeting fresh.mem = true ∧ (∀ b ∈ List.replicate 49 0x20#8, 0x20 ≤ b.toNat) ∧ fresh.cfg.readStart = .inherit ∧
    (List.replicate 49 (0x20#8 : Byte)).length < 50 ∧ (State.resetWith { conf with readStart := .zero }).cfg.readStart = .zero ∧
    [(0x20#8 : Byte)] ≠ [] := by decide
theorem witness_RefreshOperationStepByStep :
    fresh.mux = .idle ∧ ({ fresh with mux := .m1 } : State).mux = .m1 ∧ ({ fresh with mux := .m2 46 } : State).mux = .m2 46 ∧
    (busy.mux = .m3 46 50 ∧ 46 + busy.pos.val < 50) ∧ ({ fresh with mux := .m4 46 50 0x41#8 } : State).mux = .m4 46 50 0x41#8 := by decide
theorem witness_OverrunningTicksAreRefused : busy.mux ≠ .idle ∧ busy.scroll ≠ .idle := by decide
theorem witness_RefreshCycleIsRoundRobin : StateInv fresh ∧ fresh.mux = .idle := ⟨fresh_inv, rfl⟩
theorem witness_ExactlyOneDigitIsActive :
    ∃ t, (∀ p : Fin 4, (scheduled .tickRefresh).digitSel.getLsbD p.val = decide (p = (scheduled .tickRefresh).pos)) ∧
      step (scheduled .tickRefresh) = .next t := ⟨_, by decide, rfl⟩
theorem witness_UnsupportedCharactersAreBlank :
    configWf conf = true ∧ supportedChar 0x2F#8 = false ∧ supportedChar 0x3A#8 = false ∧ supportedChar 0xFF#8 = false := by decide
theorem witness_EveryAdmittedEncoderIsATable :
    configWf conf = true ∧ (∀ b : Byte, supportedChar b = false → (if b = 0x41#8 then 0x77#7 else 0x00#7) = 0b0000000#7) ∧
    (if (0x20#8 : Byte) = 0x41#8 then 0x77#7 else 0x00#7) = 0b0000000#7 := by
  refine ⟨by decide, fun b h => if_neg (fun e => ?_), by decide⟩
  subst e
  exact absurd h (by decide)
theorem witness_DefaultGlyphs :
    ¬(0x30 ≤ (0x2F#8 : Byte).toNat ∧ (0x2F#8 : Byte).toNat ≤ 0x39) ∧ ¬(0x30 ≤ (0x3A#8 : Byte).toNat ∧ (0x3A#8 : Byte).toNat ≤ 0x39) ∧
    (0x3A#8 : Byte) ≠ 0x5F#8 ∧ (0x3A#8 : Byte) ≠ 0x3D#8 := by decide
theorem witness_ConstantOutputs : StateInv fresh ∧ StateInv (State.resetWith { conf with hasDp := true }) :=
  ⟨fresh_inv, by constructor <;> trivial⟩
theorem witness_FetchedCharacterIsACellOrBlank :
    (StateInv busy ∧ busy.mux = .m3 46 50 ∧ 46 + busy.pos.val < 50) ∧
    (StateInv { fresh with mux := .m3 0 3 } ∧ ({ fresh with mux := .m3 0 3 } : State).mux = .m3 0 3 ∧ 3 ≤ 0 + fresh.pos.val) :=
  ⟨⟨busy_inv, rfl, by decide⟩, by constructor <;> trivial, rfl, by decide⟩
theorem witness_ScrollOperationStepByStep :
    fresh.scroll = .idle ∧ ({ fresh with scroll := .s1 50 } : State).scroll = .s1 50 ∧ busy.scroll = .s2 4 0 := by decide
theorem witness_ScrollPolicy : 4 ≤ 4 ∧ (4 < 5 ∧ 5 ≤ 1 + 1 + 3) ∧ (4 < 5 ∧ 0 + 1 + 3 < 5) := by decide
theorem witness_UntornScrollTickMendsTheWindow : ({ fresh with length := 1, windowOffset := 46 } : State).scroll = .idle := rfl
theorem witness_ScrollCycleIsPeriodic :
    (writing 0 5).scroll = .idle ∧ (writing 0 5).length = 5 ∧ 4 < 5 ∧ (writing 0 5).windowOffset = 0 ∧ (writing 0 50).length = 50 := by decide
theorem witness_ShortTextDoesNotScroll : fresh.scroll = .idle ∧ fresh.length ≤ 4 ∧ (writing 0 0).length ≤ 4 := by decide
theorem witness_StoreReplacesOneCell : Memory.wf fresh.cfg.greeting fresh.mem = true ∧ 49 < 50 ∧ 48 ≠ 49 := by decide
theorem witness_EveryStepKeepsTheInvariant : ∃ t, StateInv busy ∧ step busy = .next t := by
  refine ⟨if Config.freeMuxFirst 1 then { busy with mux := .m4 46 50 (busy.cell 49), draws := 2 }
    else { busy with scroll := .idle, draws := 2 }, busy_inv, ?_⟩
  show (if Config.freeMuxFirst 1 then muxStep busy.drawn else scrollStep busy.drawn) = _
  cases Config.freeMuxFirst 1 <;> rfl
theorem witness_NoStepFaults :
    (StateInv (scheduled .tickScroll) ∧ (scheduled .tickScroll).inputs = sendEvent .tickScroll :: [] ∧
      enabled (sendEvent .tickScroll) (scheduled .tickScroll)) ∧
    (StateInv { busy with inputs := [.muxStep] } ∧ enabled .muxStep { busy with inputs := [.muxStep] }) :=
  ⟨⟨by constructor <;> trivial, rfl, rfl⟩, by constructor <;> trivial, by show busy.mux ≠ .idle; decide⟩
theorem witness_BusOperationsKeepTheWindow :
    (∃ t, agentOf .slaW = .bus ∧ windowOK ({ writing 0 50 with windowOffset := 46 } : State).length
        ({ writing 0 50 with windowOffset := 46 } : State).windowOffset ∧ exec .slaW { writing 0 50 with windowOffset := 46 } = .next t) ∧
    ∃ t, windowOK fresh.length fresh.windowOffset ∧ exec .reset fresh = .next t :=
  ⟨⟨_, rfl, .inr ⟨by decide, by decide⟩, rfl⟩, _, .inl ⟨by decide, rfl⟩, rfl⟩
theorem witness_WindowHoldsWithoutBusInsideTick :
    ∃ t, windowOK (scheduled .slaW).length (scheduled .slaW).windowOffset ∧ scrollUntorn (scheduled .slaW) ∧
      (∀ x xs, (scheduled .slaW).inputs = x :: xs → noBusInsideTick x (scheduled .slaW)) ∧ step (scheduled .slaW) = .next t :=
  ⟨_, .inl ⟨by decide, rfl⟩, trivial, fun _ _ _ _ => ⟨rfl, rfl⟩, rfl⟩
theorem witness_TornScrollBreaksTheWindow :
    fresh.scroll = .idle ∧ (∀ b ∈ List.replicate 51 0x20#8, 0x20 ≤ b.toNat) ∧ (∀ b ∈ ([] : List Byte), 0x20 ≤ b.toNat) ∧
    (0x1F#8 : Byte).toNat < 0x20 ∧ (1 = 1 ∨ 1 = 2) ∧ (2 = 1 ∨ 2 = 2) ∧ Memory.wf fresh.cfg.greeting fresh.mem = true := by decide
/-- 70_reset_and_hazards.md R222's own example. -/
theorem test_torn_scroll :
    seen (fun t => (t.length, t.windowOffset, t.cell? 0))
        (deliverAll (tornAt 2 [sendEvent .slaW, sendByte 0x37#8, sendByte 0x00#8] scrollTick) { fresh with length := 20, windowOffset := 5 })
      = some (1, 6, some 0x37#8) := by decide
theorem witness_MuxAndScrollStepsCommute :
    (isMuxInput (sendEvent .tickRefresh) = true ∧ isScrollInput (sendEvent .tickScroll) = true ∧ fresh.mux = .idle ∧ fresh.scroll = .idle ∧
      ¬(fresh.mux = .m1 ∧ ∃ l w, fresh.scroll = .s2 l w)) ∧
    (isMuxInput .muxStep = true ∧ isScrollInput .scrollStep = true ∧ ¬(busy.mux = .m1 ∧ ∃ l w, busy.scroll = .s2 l w)) :=
  ⟨⟨by decide, by decide, rfl, rfl, fun h => absurd h.1 (by decide)⟩, rfl, rfl, fun h => absurd h.1 (by decide)⟩
theorem witness_SingleWriterPolicy :
    (∃ t, deliver (sendEvent .tickRefresh) fresh = .next t ∧ isResetInput (sendEvent .tickRefresh) = false ∧
      isBusInput (sendEvent .tickRefresh) = false ∧ isMuxInput (sendEvent .tickRefresh) = true) ∧
    (∃ t, deliver .scrollStep busy = .next t ∧ isResetInput .scrollStep = false ∧ isScrollInput .scrollStep = true) ∧
    (∃ t, deliver (sendEvent .slaW) busy = .next t ∧ isResetInput (sendEvent .slaW) = false ∧ isBusInput (sendEvent .slaW) = true) :=
  ⟨⟨_, rfl, by decide, by decide, by decide⟩, ⟨_, rfl, rfl, rfl⟩, _, rfl, by decide, by decide⟩
theorem witness_WriterActsOnlyInAWrite :
    (agentOf (.dataRxChar 0x41#8) = .bus ∧ fresh.proto ≠ .receivingWrite) ∧
    (∃ t, deliver (sendEvent .slaW) fresh = .next t ∧ isResetInput (sendEvent .slaW) = false ∧ t.proto = .receivingWrite) ∧
    (∃ t, Memory.wf fresh.cfg.greeting fresh.mem = true ∧ (uncommitted.all keepsWriteOpen) = true ∧
      deliverAll (sendEvent .slaW :: uncommitted) fresh = .next t ∧ 0 < t.writeIndex ∧ t.writeIndex ≤ 49) :=
  ⟨⟨rfl, by decide⟩, ⟨_, rfl, by decide, rfl⟩, _, by decide, by decide, rfl, by decide, by decide⟩
theorem witness_OnlyDataRxStores :
    ∃ t, Memory.wf (writing 49 4).cfg.greeting (writing 49 4).mem = true ∧ deliver (sendByte 0x20#8) (writing 49 4) = .next t ∧
      isResetInput (sendByte 0x20#8) = false := ⟨_, by decide, rfl, by decide⟩
theorem witness_ConfigurationIsFixed : ∃ t, step (scheduled .reset) = .next t := ⟨_, rfl⟩
/-- 0x52 is the address 0x29 with bit 0 clear, 0x53 with bit 0 set, 0x54 another address. -/
theorem witness_FrontEndMatchesItsAddress :
    conf.slaveAddr ≠ 0#7 ∧ ((0x52#8 : Byte).extractLsb' 1 7 = conf.slaveAddr ∧ (0x52#8 : Byte).getLsbD 0 = false) ∧
    ((0x53#8 : Byte).extractLsb' 1 7 = conf.slaveAddr ∧ (0x53#8 : Byte).getLsbD 0 = true) ∧
    (0x54#8 : Byte).extractLsb' 1 7 ≠ conf.slaveAddr := by decide
theorem witness_FrontEndDeliversSessions :
    masterEndsReads conf .unaddressed [.start, .byte 0x53#8, .reply true, .reply false, .stop, .start, .byte 0x52#8, .byte 0x41#8, .stop] = true ∧
    FrontPhase.receiving ≠ .transmitting ∧
    (StateInv fresh ∧ fresh.cfg.slaveAddr ≠ 0#7 ∧ (0x53#8 : Byte).extractLsb' 1 7 = fresh.cfg.slaveAddr ∧ (0x53#8 : Byte).getLsbD 0 = true) :=
  ⟨by decide, by decide, fresh_inv, by decide, by decide, by decide⟩
/-- 40_bus_slave.md R115 and R122: a read of two bytes after reset, as the master sees it: acknowledged, then the greeting's "12". -/
theorem test_read_on_the_bus :
    masterSees (attachedRun (readOnTheBus 0x53#8 1) { phase := .unaddressed, block := fresh, driven := [] })
      = some [.ack 1#1, .shifted 0x31#8, .shifted 0x32#8] := by decide
/-- 40_bus_slave.md R121, R122: another address is neither acknowledged nor answered; every byte of a write is acknowledged. -/
theorem test_acknowledges :
    masterSees (attachedRun [.wire .start, .wire (.byte 0x54#8), .wire (.byte 0x41#8), .wire .start, .wire (.byte 0x52#8), .wire (.byte 0x41#8),
        .wire .stop] { phase := .unaddressed, block := fresh, driven := [] }) = some [.ack 1#1, .ack 1#1] := by decide

end Sys2Proof.Tests
end

section
/-! PROOF. The configuration through a step: every operation of the block keeps the parameters and the environment's choices, and a step only
takes the first choice off (00_scope.md R6, 10_state.md R33, R38). -/

namespace Sys2Proof.Machine

/-- Whichever branch of a guarded update is taken, the configuration and the choices stay when they stay in both. -/
theorem SameSetting.ite {s t u : State} {p : Prop} [Decidable p] (ht : SameSetting s t) (hu : SameSetting s u) :
    SameSetting s (if p then t else u) := by
  split_ifs
  · exact ht
  · exact hu

theorem muxStep_sameSetting {s t : State} (h : muxStep s = .next t) : SameSetting s t := by
  obtain ⟨-, rfl⟩ | ⟨-, rfl⟩ | ⟨w, -, rfl⟩ | ⟨w, l, c, -, -, rfl⟩ | ⟨w, l, c, -, rfl⟩ := muxStep_cases h
  all_goals exact ⟨rfl, rfl⟩

theorem scrollStep_sameSetting {s t : State} (h : scrollStep s = .next t) : SameSetting s t := by
  obtain ⟨-, hs⟩ | ⟨l, -, hs⟩ | ⟨l, w, -, hs⟩ := scrollStep_cases s
  all_goals
    cases hs.symm.trans h
    exact ⟨rfl, rfl⟩

/-- Every event's operation, `RESET` among them, keeps the configuration and the choices still to come. -/
theorem exec_sameSetting {i : Instr} {s t : State} (h : exec i s = .next t) : SameSetting s t := by
  cases i with
  | slaW => cases h; exact ⟨rfl, rfl⟩
  | dataRxTerm d => cases h; exact .ite ⟨rfl, rfl⟩ ⟨rfl, rfl⟩
  | dataRxChar d => cases h; exact .ite ⟨rfl, rfl⟩ ⟨rfl, rfl⟩
  | stopRstart =>
    cases h
    have hcommit : SameSetting s (if s.cfg.stopCommitsLength && s.accepting then s.commitLength else s) :=
      .ite ⟨rfl, rfl⟩ ⟨rfl, rfl⟩
    exact hcommit
  | slaR => cases h; exact ⟨rfl, rfl⟩
  | dataTxAck => cases h; exact .ite ⟨rfl, rfl⟩ ⟨rfl, rfl⟩
  | dataTxNack => cases h; exact .ite ⟨rfl, rfl⟩ ⟨rfl, rfl⟩
  | busOther cc => cases h; exact ⟨rfl, rfl⟩
  | tickRefresh =>
    obtain ⟨-, rfl⟩ := execTickRefresh_next.mp h
    exact ⟨rfl, rfl⟩
  | tickScroll =>
    obtain ⟨-, rfl⟩ := execTickScroll_next.mp h
    exact ⟨rfl, rfl⟩
  | reset => cases h; exact ⟨rfl, rfl⟩

/-- Delivering a choice keeps the configuration and the choices still to come (20_memory.md R60). -/
theorem deliver_sameSetting {x : Input} {s t : State} (h : deliver x s = .next t) : SameSetting s t := by
  cases x with
  | event ev => exact exec_sameSetting h
  | muxStep => exact muxStep_sameSetting h
  | scrollStep => exact scrollStep_sameSetting h

/-- With nothing scheduled the machine takes a step of `SCROLL` or of `MUX`, after a draw where both are in flight (20_memory.md R60). -/
theorem undriven_cases (s : State) :
    (s.mux = .idle ∧ undriven s = scrollStep s) ∨ (s.mux ≠ .idle ∧ s.scroll = .idle ∧ undriven s = muxStep s) ∨
    (s.mux ≠ .idle ∧ s.scroll ≠ .idle ∧ (undriven s = muxStep s.drawn ∨ undriven s = scrollStep s.drawn)) := by
  unfold undriven
  split_ifs with hm hs hfirst
  · exact .inl ⟨isIdle_mux.mp hm, rfl⟩
  · exact .inr (.inl ⟨mt isIdle_mux.mpr hm, isIdle_scroll.mp hs, rfl⟩)
  · exact .inr (.inr ⟨mt isIdle_mux.mpr hm, mt isIdle_scroll.mpr hs, .inl rfl⟩)
  · exact .inr (.inr ⟨mt isIdle_mux.mpr hm, mt isIdle_scroll.mpr hs, .inr rfl⟩)

/-- What happens with nothing scheduled keeps the configuration and the empty schedule. -/
theorem undriven_sameSetting {s t : State} (h : undriven s = .next t) : SameSetting s t := by
  obtain ⟨-, hu⟩ | ⟨-, -, hu⟩ | ⟨-, -, hu | hu⟩ := undriven_cases s
  · exact scrollStep_sameSetting (hu.symm.trans h)
  · exact muxStep_sameSetting (hu.symm.trans h)
  · exact (muxStep_sameSetting (hu.symm.trans h) : SameSetting s.drawn t)
  · exact (scrollStep_sameSetting (hu.symm.trans h) : SameSetting s.drawn t)

/-- Settles O57, by the two sources of a step: the first scheduled choice, or what happens with none. -/
theorem configurationIsFixed : Obligations.ConfigurationIsFixed := by
  unfold Obligations.ConfigurationIsFixed
  intro s t h
  cases hin : s.inputs with
  | nil =>
    obtain ⟨hcfg, -⟩ := undriven_sameSetting ((step_nil hin).symm.trans h)
    exact hcfg
  | cons x xs =>
    obtain ⟨hcfg, -⟩ := deliver_sameSetting ((step_cons hin).symm.trans h)
    exact hcfg

end Sys2Proof.Machine
end

section
/-! PROOF. Reset states meet the invariants: of every admitted configuration, and so of the device of `State.reset` (00_scope.md R7,
20_memory.md R66, R67). -/

namespace Sys2Proof.Machine

/-- The constraints of 00_scope.md R7 and 41_digit_mux.md R147, one conjunct each. -/
theorem configWf_iff {c : Config} :
    configWf c = true ↔ c.greeting.length ≤ 50 ∧ (∀ b ∈ c.greeting, 0x20 ≤ b.toNat) ∧
      (∀ e ∈ c.segTable, supportedChar e.1 = true) ∧ segOf c blankChar = blankPattern := by
  simp only [configWf, Bool.and_eq_true, decide_eq_true_eq, List.all_eq_true, beq_iff_eq, and_assoc]

theorem length_greetingOf_le (bs : List Byte) : (greetingOf bs).length ≤ 50 := List.length_take_le _ _

/-- A greeting that `greetingOf` makes holds no terminator. -/
theorem le_toNat_of_mem_greetingOf {bs : List Byte} {b : Byte} (h : b ∈ greetingOf bs) : 0x20 ≤ b.toNat := by
  have hkept : b ∈ bs.filter (fun b => decide (termThreshold ≤ b.toNat)) := List.mem_of_mem_take h
  exact of_decide_eq_true (List.mem_filter.mp hkept).2

/-- The default table's bytes are all in the supported set (41_digit_mux.md R147 (d), R148). -/
theorem supportedChar_of_mem_defaultSegTable : ∀ e ∈ defaultSegTable, supportedChar e.1 = true :=
  List.all_eq_true.mp rfl

/-- The device's configuration is admitted whatever its open constants are (00_scope.md R7; log entry 2). -/
theorem configWf_deviceConfig : configWf deviceConfig = true :=
  configWf_iff.mpr ⟨length_greetingOf_le _, fun _ => le_toNat_of_mem_greetingOf, supportedChar_of_mem_defaultSegTable, rfl⟩

/-- Every reset state of an admitted configuration meets the range invariants (20_memory.md R66, 70_reset_and_hazards.md R213). -/
theorem stateInv_resetFrom {c : Config} (h : configWf c = true) (n : Nat) (xs : List Input) : StateInv (State.resetFrom c n xs) where
  cfg_wf := h
  mem_wf := Memory.wf_nil _
  length_le := (configWf_iff.mp h).1
  writeIndex_le := Nat.zero_le _
  windowOffset_le := Nat.zero_le _
  oneHot := rfl
  mux_inRange := trivial
  scroll_inRange := trivial
  dp_dark := rfl
  ack_on := rfl

/-- The window that starts at the first cell is right for every length (20_memory.md R67). -/
theorem windowOK_zero (l : Nat) : windowOK l 0 := by
  obtain hle | hlt := le_or_gt l 4
  · exact .inl ⟨hle, rfl⟩
  · exact .inr ⟨hlt, by omega⟩

/-- Settles O13: the device's configuration is admitted, and the reset state of an admitted configuration meets the invariants. -/
theorem deviceResetMeetsTheInvariants : Obligations.DeviceResetMeetsTheInvariants :=
  ⟨configWf_deviceConfig, stateInv_resetFrom configWf_deviceConfig 0 [], windowOK_zero _⟩

end Sys2Proof.Machine
end

section
/-! PROOF. What one choice of the environment can do to the state, said once: the forms of a bus operation's next state, the frame of a step of
`MUX` and of `SCROLL`, and that every step of the machine is a delivery (20_memory.md R60, 40_bus_slave.md R101 to R109). -/

namespace Sys2Proof.Machine

/-- `BusMove s i t`: `t` is a form that the operation of the bus event `i` can give the next state of `s`, each with its guard
(40_bus_slave.md R101 to R110). A printable byte that does nothing in an accepting write has found no room. -/
inductive BusMove (s : State) : Instr → State → Prop where
  | nothing {i : Instr} (hfull : ∀ d, i = .dataRxChar d → s.accepting = true → 50 ≤ s.writeIndex) : BusMove s i s
  | opened : BusMove s .slaW { (s.enter .receivingWrite).openRx with writeIndex := 0, windowOffset := 0 }
  | committed (d : Byte) (hacc : s.accepting = true) : BusMove s (.dataRxTerm d) s.commitLength.closeRx
  | stored (d : Byte) (hacc : s.accepting = true) (hroom : s.writeIndex < 50) :
      BusMove s (.dataRxChar d) { s.storeCell s.writeIndex d with writeIndex := s.writeIndex + 1 }
  | stopped : BusMove s .stopRstart (s.enter .idle)
  | stoppedCommitting (hcfg : s.cfg.stopCommitsLength = true) (hacc : s.accepting = true) :
      BusMove s .stopRstart (s.commitLength.enter .idle)
  | readOpened :
      BusMove s .slaR ({ s.enter .transmittingRead with readIndex := readStartIndex s }.fetchTx (readStartIndex s))
  | readAdvanced (htx : s.proto = .transmittingRead) :
      BusMove s .dataTxAck ({ s with readIndex := s.readIndex + 1 }.fetchTx (s.readIndex + 1))
  | readEnded (htx : s.proto = .transmittingRead) : BusMove s .dataTxNack (s.enter .idle)

/-- Every bus event completes in every state, in one of the forms. -/
theorem exec_busMove {i : Instr} (hbus : agentOf i = .bus) (s : State) : ∃ t, exec i s = .next t ∧ BusMove s i t := by
  cases i with
  | slaW => exact ⟨_, rfl, .opened⟩
  | dataRxTerm d =>
    refine ⟨_, rfl, ?_⟩
    split_ifs with hacc
    · exact .committed d hacc
    · exact .nothing nofun
  | dataRxChar d =>
    refine ⟨_, rfl, ?_⟩
    simp only [Bool.and_eq_true, decide_eq_true_eq]
    split_ifs with hstore
    · exact .stored d hstore.1 hstore.2
    · exact .nothing fun _ _ hacc => Nat.not_lt.mp fun hroom => hstore ⟨hacc, hroom⟩
  | stopRstart =>
    refine ⟨_, rfl, ?_⟩
    simp only [Bool.and_eq_true]
    split_ifs with hcommit
    · exact .stoppedCommitting hcommit.1 hcommit.2
    · exact .stopped
  | slaR => exact ⟨_, rfl, .readOpened⟩
  | dataTxAck =>
    refine ⟨_, rfl, ?_⟩
    split_ifs with htx
    · exact .readAdvanced htx
    · exact .nothing nofun
  | dataTxNack =>
    refine ⟨_, rfl, ?_⟩
    split_ifs with htx
    · exact .readEnded htx
    · exact .nothing nofun
  | busOther cc => exact ⟨_, rfl, .nothing nofun⟩
  | tickRefresh => cases hbus
  | tickScroll => cases hbus
  | reset => cases hbus

/-- A bus operation writes no display register, no temporary of a tick operation, no parameter and not `ackEn`, and the unspecified cells stay
those of the last reset (40_bus_slave.md R107). -/
theorem BusMove.frame {s t : State} {i : Instr} (h : BusMove s i t) :
    SameDisplay s t ∧ SameFlight s t ∧ t.cfg = s.cfg ∧ t.ackEn = s.ackEn ∧ t.epoch = s.epoch := by
  cases h <;> exact ⟨⟨rfl, rfl, rfl, rfl⟩, ⟨rfl, rfl⟩, rfl, rfl, rfl⟩

/-- A bus operation leaves `length` and `windowOffset` both, or makes the offset 0 (20_memory.md R55). -/
theorem BusMove.window_cases {s t : State} {i : Instr} (h : BusMove s i t) :
    (t.length = s.length ∧ t.windowOffset = s.windowOffset) ∨ t.windowOffset = 0 := by
  cases h with
  | opened => exact .inr rfl
  | committed => exact .inr rfl
  | stoppedCommitting => exact .inr rfl
  | _ => exact .inl ⟨rfl, rfl⟩

/-- Cells read the same where the configuration, the list and the epoch are the same. -/
theorem sameCells_of_mem {s t : State} (hc : t.cfg = s.cfg) (hm : t.mem = s.mem) (he : t.epoch = s.epoch) : SameCells s t :=
  State.cell?_congr hc hm he

/-- A bus operation stores a printable byte at `writeIndex`, or changes no cell (20_memory.md R51). -/
theorem BusMove.cells_cases {s t : State} {i : Instr} (h : BusMove s i t) :
    SameCells s t ∨ ∃ d, i = .dataRxChar d ∧ s.accepting = true ∧ s.writeIndex < 50 ∧
      t = { s.storeCell s.writeIndex d with writeIndex := s.writeIndex + 1 } := by
  cases h with
  | stored d hacc hroom => exact .inr ⟨d, rfl, hacc, hroom, rfl⟩
  | _ => exact .inl (sameCells_of_mem rfl rfl rfl)

/-- A choice delivers a bus event, or is a step of one tick agent, or a reset. -/
theorem input_cases (x : Input) :
    (∃ i, busEventOf x = some i) ∨
    busEventOf x = none ∧ (isMuxInput x = true ∨ isScrollInput x = true ∨ isResetInput x = true) := by
  cases x with
  | event ev =>
    simp only [busEventOf, isMuxInput, isScrollInput, isResetInput, decide_eq_true_eq]
    cases decode ev <;> simp [agentOf]
  | muxStep => exact .inr ⟨rfl, .inl rfl⟩
  | scrollStep => exact .inr ⟨rfl, .inr (.inl rfl)⟩

theorem isBusInput_iff {x : Input} : isBusInput x = true ↔ ∃ i, busEventOf x = some i := by
  cases x with
  | event ev => by_cases hbus : agentOf (decode ev) = .bus <;> simp [isBusInput, busEventOf, hbus]
  | muxStep => simp [isBusInput, busEventOf]
  | scrollStep => simp [isBusInput, busEventOf]

/-- The bus event that a choice delivers has its operands in range (30_encoding.md R84). -/
theorem wf_of_busEventOf {x : Input} {i : Instr} (h : busEventOf x = some i) : i.wf = true := by
  cases x with
  | event ev =>
    simp only [busEventOf] at h
    split_ifs at h
    cases h
    exact decode_wf ev
  | muxStep => cases h
  | scrollStep => cases h

theorem busMove_of_deliver {x : Input} {i : Instr} {s t : State} (hx : busEventOf x = some i) (h : deliver x s = .next t) :
    BusMove s i t := by
  obtain ⟨hexec, hbus⟩ := deliver_of_bus hx s
  obtain ⟨u, hu, hmove⟩ := exec_busMove hbus s
  cases (hexec.trans hu).symm.trans h
  exact hmove

/-- `t` follows `s` by one of the steps M1 to M5 of `MUX` (41_digit_mux.md R141). -/
def MuxMove (s t : State) : Prop := execTickRefresh s = .next t ∨ muxStep s = .next t

/-- `t` follows `s` by one of the steps S1 to S3 of `SCROLL` (42_scroll.md R161). -/
def ScrollMove (s t : State) : Prop := execTickScroll s = .next t ∨ scrollStep s = .next t

theorem muxMove_of_deliver {x : Input} {s t : State} (hx : isMuxInput x = true) (h : deliver x s = .next t) : MuxMove s t := by
  obtain rfl | ⟨-, htick⟩ := deliver_of_mux hx
  · exact .inr h
  · exact .inl (htick ▸ h)

theorem scrollMove_of_deliver {x : Input} {s t : State} (hx : isScrollInput x = true) (h : deliver x s = .next t) : ScrollMove s t := by
  obtain rfl | ⟨-, htick⟩ := deliver_of_scroll hx
  · exact .inr h
  · exact .inl (htick ▸ h)

theorem deliver_of_reset {x : Input} (hx : isResetInput x = true) : deliver x = execReset := by
  cases x with
  | event ev =>
    funext s
    rw [deliver_event, of_decide_eq_true hx]
    rfl
  | muxStep => cases hx
  | scrollStep => cases hx

/-- A step of `MUX` writes the display registers and its own operation in flight, and nothing else (20_memory.md R55). -/
theorem MuxMove.frame {s t : State} (h : MuxMove s t) : ∃ p ds sg m, t = { s with pos := p, digitSel := ds, seg := sg, mux := m } := by
  obtain h | h := h
  · obtain ⟨-, rfl⟩ := execTickRefresh_next.mp h
    exact ⟨_, _, _, _, rfl⟩
  · obtain ⟨-, rfl⟩ | ⟨-, rfl⟩ | ⟨w, -, rfl⟩ | ⟨w, l, c, -, -, rfl⟩ | ⟨w, l, c, -, rfl⟩ := muxStep_cases h
    all_goals exact ⟨_, _, _, _, rfl⟩

/-- A step of `SCROLL` writes the offset and its own operation in flight, and nothing else (20_memory.md R55). -/
theorem ScrollMove.frame {s t : State} (h : ScrollMove s t) : ∃ w c, t = { s with windowOffset := w, scroll := c } := by
  obtain h | h := h
  · obtain ⟨-, rfl⟩ := execTickScroll_next.mp h
    exact ⟨_, _, rfl⟩
  · obtain ⟨-, hs⟩ | ⟨l, -, hs⟩ | ⟨l, w, -, hs⟩ := scrollStep_cases s
    all_goals
      cases hs.symm.trans h
      exact ⟨_, _, rfl⟩

/-- Everything that a delivered choice that answers a next state can have done (20_memory.md R60). -/
theorem deliver_cases {x : Input} {s t : State} (h : deliver x s = .next t) :
    (∃ i, busEventOf x = some i ∧ BusMove s i t) ∨
    busEventOf x = none ∧
      (MuxMove s t ∨ ScrollMove s t ∨ isResetInput x = true ∧ t = State.resetFrom s.cfg s.draws s.inputs) := by
  obtain ⟨i, hi⟩ | ⟨hnone, hmux | hscroll | hreset⟩ := input_cases x
  · exact .inl ⟨i, hi, busMove_of_deliver hi h⟩
  · exact .inr ⟨hnone, .inl (muxMove_of_deliver hmux h)⟩
  · exact .inr ⟨hnone, .inr (.inl (scrollMove_of_deliver hscroll h))⟩
  · rw [deliver_of_reset hreset] at h
    cases h
    exact .inr ⟨hnone, .inr (.inr ⟨hreset, rfl⟩)⟩

/-- Every step of the machine is the delivery of a choice, the scheduled one or else no bus event, to a state that differs from the one before
in the model's own schedule and counter only. -/
theorem step_delivers {s t : State} (h : step s = .next t) :
    ∃ x xs n, deliver x { s with inputs := xs, draws := n } = .next t ∧ (s.inputs = x :: xs ∨ isBusInput x = false) := by
  cases hin : s.inputs with
  | cons x xs =>
    have htaken : s.taken = { s with inputs := xs, draws := s.draws } := by simp [State.taken, hin]
    exact ⟨x, xs, s.draws, htaken ▸ (step_cons hin).symm.trans h, .inl rfl⟩
  | nil =>
    have hun := (step_nil hin).symm.trans h
    obtain ⟨-, hu⟩ | ⟨-, -, hu⟩ | ⟨-, -, hu | hu⟩ := undriven_cases s
    · exact ⟨.scrollStep, s.inputs, s.draws, hu.symm.trans hun, .inr rfl⟩
    · exact ⟨.muxStep, s.inputs, s.draws, hu.symm.trans hun, .inr rfl⟩
    · exact ⟨.muxStep, s.inputs, s.draws + 1, hu.symm.trans hun, .inr rfl⟩
    · exact ⟨.scrollStep, s.inputs, s.draws + 1, hu.symm.trans hun, .inr rfl⟩

end Sys2Proof.Machine
end

section
/-! PROOF. What every step keeps: the range invariants of 20_memory.md R66 whatever tears a tick operation, and the window invariant of R67
under the premise of R68. -/

namespace Sys2Proof.Machine

/-- A bus operation stores below cell 50 and commits only values of `writeIndex`, so it keeps the invariant (20_memory.md R66). -/
theorem StateInv.busMove {s t : State} {i : Instr} (hs : StateInv s) (h : BusMove s i t) : StateInv t := by
  cases h with
  | nothing => exact hs
  | opened => exact { hs with writeIndex_le := Nat.zero_le _, windowOffset_le := Nat.zero_le _ }
  | committed => exact { hs with length_le := hs.writeIndex_le, windowOffset_le := Nat.zero_le _ }
  | stored d _ hroom => exact { hs with mem_wf := Memory.wf_write hs.mem_wf hroom d, writeIndex_le := hroom }
  | stopped => exact { hs with }
  | stoppedCommitting => exact { hs with length_le := hs.writeIndex_le, windowOffset_le := Nat.zero_le _ }
  | readOpened => exact { hs with }
  | readAdvanced => exact { hs with }
  | readEnded => exact { hs with }

/-- A step of `MUX` moves `pos` and `digitSel` together and samples registers that are in range. -/
theorem StateInv.muxMove {s t : State} (hs : StateInv s) (h : MuxMove s t) : StateInv t := by
  have hflight := hs.mux_inRange
  obtain h | h := h
  · obtain ⟨-, rfl⟩ := execTickRefresh_next.mp h
    exact { hs with oneHot := rfl, mux_inRange := trivial }
  · obtain ⟨-, rfl⟩ | ⟨-, rfl⟩ | ⟨w, hm, rfl⟩ | ⟨w, l, c, hm, -, rfl⟩ | ⟨w, l, c, -, rfl⟩ := muxStep_cases h
    · exact hs
    · exact { hs with mux_inRange := hs.windowOffset_le }
    · rw [hm] at hflight
      exact { hs with mux_inRange := ⟨hflight, hs.length_le⟩ }
    · rw [hm] at hflight
      exact { hs with mux_inRange := hflight }
    · exact { hs with mux_inRange := trivial }

/-- A step of `SCROLL` samples registers that are in range, and `ScrollNext` of a length in range is in range. -/
theorem StateInv.scrollMove {s t : State} (hs : StateInv s) (h : ScrollMove s t) : StateInv t := by
  have hflight := hs.scroll_inRange
  obtain h | h := h
  · obtain ⟨-, rfl⟩ := execTickScroll_next.mp h
    exact { hs with scroll_inRange := hs.length_le }
  · obtain ⟨-, hstep⟩ | ⟨l, hsc, hstep⟩ | ⟨l, w, hsc, hstep⟩ := scrollStep_cases s
    all_goals cases hstep.symm.trans h
    · exact hs
    · rw [hsc] at hflight
      exact { hs with scroll_inRange := ⟨hflight, hs.windowOffset_le⟩ }
    · rw [hsc] at hflight
      exact { hs with windowOffset_le := scrollNext_le w hflight.1, scroll_inRange := trivial }

/-- Delivering any choice keeps the invariant. -/
theorem StateInv.deliver_next {x : Input} {s t : State} (hs : StateInv s) (h : deliver x s = .next t) : StateInv t := by
  obtain ⟨i, -, hbus⟩ | ⟨-, hmux | hscroll | ⟨-, rfl⟩⟩ := deliver_cases h
  · exact hs.busMove hbus
  · exact hs.muxMove hmux
  · exact hs.scrollMove hscroll
  · exact stateInv_resetFrom hs.cfg_wf _ _

/-- Settles O49: a step is a delivery, and the invariant speaks of neither the schedule nor the counter. -/
theorem everyStepKeepsTheInvariant : Obligations.EveryStepKeepsTheInvariant := by
  unfold Obligations.EveryStepKeepsTheInvariant
  intro s t hs h
  obtain ⟨x, xs, n, hx, -⟩ := step_delivers h
  have hs' : StateInv { s with inputs := xs, draws := n } := { hs with }
  exact hs'.deliver_next hx

/-- `ScrollNext` of the length itself is a right offset, whatever the offset was (42_scroll.md R163). -/
theorem windowOK_scrollNext (w l : Nat) : windowOK l (scrollNext w l) := by
  unfold scrollNext windowOK
  split_ifs <;> omega

/-- A bus operation keeps the window right: it leaves `length` and the offset both, or starts at the first cell (20_memory.md R67). -/
theorem BusMove.keeps_window {s t : State} {i : Instr} (hw : windowOK s.length s.windowOffset) (h : BusMove s i t) :
    windowOK t.length t.windowOffset := by
  obtain ⟨hl, ho⟩ | ho := h.window_cases
  · rw [hl, ho]; exact hw
  · rw [ho]; exact windowOK_zero _

/-- Settles O51, from `BusMove.keeps_window` and the offset 0 of a reset. -/
theorem busOperationsKeepTheWindow : Obligations.BusOperationsKeepTheWindow := by
  unfold Obligations.BusOperationsKeepTheWindow
  rintro i s t (hbus | rfl) hw h
  · obtain ⟨u, hu, hmove⟩ := exec_busMove hbus s
    cases hu.symm.trans h
    exact hmove.keeps_window hw
  · cases h
    exact windowOK_zero _

/-- A step of `SCROLL` that nothing has torn keeps the window right: S1 and S2 sample the registers as they stand, and S3 writes `ScrollNext`
of the length that still stands (20_memory.md R67). -/
theorem ScrollMove.keeps_window {s t : State} (hw : windowOK s.length s.windowOffset) (hu : scrollUntorn s) (h : ScrollMove s t) :
    windowOK t.length t.windowOffset ∧ scrollUntorn t := by
  obtain h | h := h
  · obtain ⟨-, rfl⟩ := execTickScroll_next.mp h
    exact ⟨hw, rfl⟩
  · obtain ⟨-, hstep⟩ | ⟨l, hsc, hstep⟩ | ⟨l, w, hsc, hstep⟩ := scrollStep_cases s
    all_goals cases hstep.symm.trans h
    · exact ⟨hw, hu⟩
    · simp only [scrollUntorn, hsc] at hu
      exact ⟨hw, hu, rfl⟩
    · simp only [scrollUntorn, hsc] at hu
      obtain ⟨rfl, -⟩ := hu
      exact ⟨windowOK_scrollNext w _, trivial⟩

/-- With no scroll operation in flight there is none to tear. -/
theorem scrollUntorn_of_idle {s : State} (h : s.scroll = .idle) : scrollUntorn s := by
  simp [scrollUntorn, h]

/-- Under `NoBusInsideTick` a delivery keeps the window right and the scroll operation untorn (20_memory.md R68). -/
theorem deliver_keeps_window {x : Input} {s t : State} (hw : windowOK s.length s.windowOffset) (hu : scrollUntorn s)
    (hx : noBusInsideTick x s) (h : deliver x s = .next t) : windowOK t.length t.windowOffset ∧ scrollUntorn t := by
  obtain ⟨i, hi, hbus⟩ | ⟨-, hmux | hscroll | ⟨-, rfl⟩⟩ := deliver_cases h
  · obtain ⟨-, ⟨-, hsame⟩, -⟩ := hbus.frame
    obtain ⟨-, hidle⟩ := hx (isBusInput_iff.mpr ⟨i, hi⟩)
    exact ⟨hbus.keeps_window hw, scrollUntorn_of_idle (hsame.trans hidle)⟩
  · obtain ⟨p, ds, sg, m, rfl⟩ := hmux.frame
    exact ⟨hw, hu⟩
  · exact hscroll.keeps_window hw hu
  · exact ⟨windowOK_zero _, trivial⟩

/-- Settles O52: a step is a delivery, of a bus event only where the schedule's next choice is one. -/
theorem windowHoldsWithoutBusInsideTick : Obligations.WindowHoldsWithoutBusInsideTick := by
  unfold Obligations.WindowHoldsWithoutBusInsideTick
  intro s t hw hu hno h
  obtain ⟨x, xs, n, hx, hfrom⟩ := step_delivers h
  refine deliver_keeps_window (s := { s with inputs := xs, draws := n }) hw hu ?_ hx
  obtain hin | hbus := hfrom
  · exact hno x xs hin
  · exact fun hbus' => absurd hbus' (by simp [hbus])

end Sys2Proof.Machine
end

section
/-! PROOF. The schedule: what a step runs, that a run delivers the scheduled choices in order, and that the tick operations in flight finish when
nothing more is delivered (20_memory.md R60, 60_exceptions.md R177, R182). -/

namespace Sys2Proof.Machine

/-- A step on a schedule that begins with `x` delivers `x` with the rest still to come. -/
theorem step_scheduled {s : State} {x : Input} {xs : List Input} (h : s.inputs = x :: xs) :
    step s = deliver x { s with inputs := xs } := by
  rw [step_cons h, State.taken, h, List.tail_cons]

/-- Settles O4, from the step on a schedule and the decoder's range. -/
theorem stepRunsTheDecodedEvent : Obligations.StepRunsTheDecodedEvent := by
  unfold Obligations.StepRunsTheDecodedEvent
  intro s ev xs h
  exact ⟨decode_wf ev, step_scheduled h⟩

/-- Settles O5, from the step on a schedule. -/
theorem stepRunsTheScheduledAgent : Obligations.StepRunsTheScheduledAgent := by
  unfold Obligations.StepRunsTheScheduledAgent
  intro s xs
  exact ⟨step_scheduled, step_scheduled⟩

section StepEquations

variable {s : State} {w l : Nat} {c : Byte}

/-! `muxStep` and `scrollStep`, an equation for each operation in flight (41_digit_mux.md R141, 42_scroll.md R161). -/

theorem muxStep_of_idle (h : s.mux = .idle) : muxStep s = .next s := by simp only [muxStep, h]

theorem muxStep_of_m1 (h : s.mux = .m1) : muxStep s = .next { s with mux := .m2 s.windowOffset } := by simp only [muxStep, h]

theorem muxStep_of_m2 (h : s.mux = .m2 w) : muxStep s = .next { s with mux := .m3 w s.length } := by simp only [muxStep, h]

theorem muxStep_of_m3 (h : s.mux = .m3 w l) :
    muxStep s = (visibleChar s (w + s.pos.val) l).elim (.fault (.noSuchCell (w + s.pos.val))) fun c =>
      .next { s with mux := .m4 w l c } := by
  simp only [muxStep, h]
  cases visibleChar s (w + s.pos.val) l <;> rfl

theorem muxStep_of_m4 (h : s.mux = .m4 w l c) : muxStep s = .next { s with seg := segOf s.cfg c, mux := .idle } := by
  simp only [muxStep, h]

theorem scrollStep_of_idle (h : s.scroll = .idle) : scrollStep s = .next s := by simp only [scrollStep, h]

theorem scrollStep_of_s1 (h : s.scroll = .s1 l) : scrollStep s = .next { s with scroll := .s2 l s.windowOffset } := by
  simp only [scrollStep, h]

theorem scrollStep_of_s2 (h : s.scroll = .s2 l w) :
    scrollStep s = .next { s with windowOffset := scrollNext w l, scroll := .idle } := by
  simp only [scrollStep, h]

end StepEquations

/-- The outcome with its next state changed by `f`. -/
def mapNext (f : State → State) (o : Host.Outcome State Fault Refusal) : Host.Outcome State Fault Refusal :=
  andThen o fun t => .next (f t)

/-- The state with another offset, another scroll operation in flight and another schedule. -/
def State.withScroll (s : State) (w : Nat) (c : ScrollOp) (ys : List Input) : State :=
  { s with windowOffset := w, scroll := c, inputs := ys }

/-- A step of `MUX` reads no scroll operation and no schedule, and the offset in M2 only (41_digit_mux.md R141). -/
theorem muxStep_withScroll {s : State} {w : Nat} (hw : s.mux = .m1 → w = s.windowOffset) (c : ScrollOp) (ys : List Input) :
    muxStep (s.withScroll w c ys) = mapNext (State.withScroll · w c ys) (muxStep s) := by
  cases hm : s.mux with
  | idle => rw [muxStep_of_idle hm, muxStep_of_idle (s := s.withScroll w c ys) hm]; rfl
  | m1 =>
    rw [muxStep_of_m1 hm, muxStep_of_m1 (s := s.withScroll w c ys) hm]
    obtain rfl := hw hm
    rfl
  | m2 w' => rw [muxStep_of_m2 hm, muxStep_of_m2 (s := s.withScroll w c ys) hm]; rfl
  | m3 w' l =>
    have hfetch : visibleChar (s.withScroll w c ys) (w' + (s.withScroll w c ys).pos.val) l = visibleChar s (w' + s.pos.val) l :=
      visibleChar_congr rfl rfl rfl _ _
    rw [muxStep_of_m3 hm, muxStep_of_m3 (s := s.withScroll w c ys) hm, hfetch]
    cases visibleChar s (w' + s.pos.val) l <;> rfl
  | m4 w' l ch => rw [muxStep_of_m4 hm, muxStep_of_m4 (s := s.withScroll w c ys) hm]; rfl

/-- The state with `ys` as its schedule. -/
def State.withInputs (s : State) (ys : List Input) : State := { s with inputs := ys }

/-- No event's operation reads the schedule: with another one it does the same and leaves that one waiting. -/
theorem exec_withInputs (i : Instr) (s : State) (ys : List Input) :
    exec i (s.withInputs ys) = mapNext (State.withInputs · ys) (exec i s) := by
  symm
  cases i with
  | slaW => rfl
  | dataRxTerm d => exact congrArg Host.Outcome.next (apply_ite (State.withInputs · ys) _ _ _)
  | dataRxChar d => exact congrArg Host.Outcome.next (apply_ite (State.withInputs · ys) _ _ _)
  | stopRstart => exact congrArg (fun t : State => Host.Outcome.next (t.enter .idle)) (apply_ite (State.withInputs · ys) _ _ _)
  | slaR => rfl
  | dataTxAck => exact congrArg Host.Outcome.next (apply_ite (State.withInputs · ys) _ _ _)
  | dataTxNack => exact congrArg Host.Outcome.next (apply_ite (State.withInputs · ys) _ _ _)
  | busOther cc => rfl
  | tickRefresh => exact apply_ite (mapNext _) _ _ _
  | tickScroll => exact apply_ite (mapNext _) _ _ _
  | reset => rfl

theorem muxStep_withInputs (s : State) (ys : List Input) :
    muxStep (s.withInputs ys) = mapNext (State.withInputs · ys) (muxStep s) := by
  refine (muxStep_withScroll (fun _ => rfl) s.scroll ys).trans ?_
  cases h : muxStep s with
  | next t =>
    obtain ⟨p, ds, sg, m, rfl⟩ := MuxMove.frame (.inr h)
    rfl
  | fault r => rfl
  | refused r => rfl

theorem scrollStep_withInputs (s : State) (ys : List Input) :
    scrollStep (s.withInputs ys) = mapNext (State.withInputs · ys) (scrollStep s) := by
  cases hsc : s.scroll with
  | idle => rw [scrollStep_of_idle hsc, scrollStep_of_idle (s := s.withInputs ys) hsc]; rfl
  | s1 l => rw [scrollStep_of_s1 hsc, scrollStep_of_s1 (s := s.withInputs ys) hsc]; rfl
  | s2 l w => rw [scrollStep_of_s2 hsc, scrollStep_of_s2 (s := s.withInputs ys) hsc]; rfl

/-- No choice's operation reads the schedule (60_exceptions.md R177). -/
theorem deliver_withInputs (x : Input) (s : State) (ys : List Input) :
    deliver x (s.withInputs ys) = mapNext (State.withInputs · ys) (deliver x s) := by
  cases x with
  | event ev => exact exec_withInputs (decode ev) s ys
  | muxStep => exact muxStep_withInputs s ys
  | scrollStep => exact scrollStep_withInputs s ys

/-- Settles O7, by induction on the schedule. -/
theorem runDeliversTheSchedule : Obligations.RunDeliversTheSchedule := by
  unfold Obligations.RunDeliversTheSchedule
  intro xs
  induction xs with
  | nil => intro s; rfl
  | cons x xs ih =>
    intro s
    rw [List.length_cons, core_run_succ, step_scheduled rfl, deliverAll_cons]
    show andThen (deliver x (s.withInputs (xs ++ s.inputs))) (Host.Core.run core xs.length) = _
    rw [deliver_withInputs]
    cases hx : deliver x s with
    | next t =>
      obtain ⟨-, hin⟩ := deliver_sameSetting hx
      rw [← hin]
      exact ih t
    | fault r => rfl
    | refused r => rfl

/-- In a state that meets the invariant a display fetch stays below cell 50 (20_memory.md R66 (f)). -/
theorem StateInv.fetchIndex_lt {s : State} (hs : StateInv s) {w l : Nat} (hm : s.mux = .m3 w l) : w + s.pos.val < 50 := by
  have hrange := hs.mux_inRange
  rw [hm] at hrange
  obtain ⟨hw, -⟩ := hrange
  omega

/-- Step M4 below cell 50 fetches the cell, or the blank character at or beyond the sampled length (20_memory.md R54). -/
theorem muxStep_fetch {s : State} {w l : Nat} (hm : s.mux = .m3 w l) (hlt : w + s.pos.val < 50) :
    muxStep s = .next { s with mux := .m4 w l (if w + s.pos.val < l then s.cell (w + s.pos.val) else blankChar) } := by
  rw [muxStep_of_m3 hm, visibleChar_of_lt s l hlt, Option.elim_some]

/-- Settles O42, from what M4 fetches below cell 50. -/
theorem fetchedCharacterIsACellOrBlank : Obligations.FetchedCharacterIsACellOrBlank := by
  unfold Obligations.FetchedCharacterIsACellOrBlank
  intro s w l hs hm
  have hlt := hs.fetchIndex_lt hm
  refine ⟨_, muxStep_fetch hm hlt, Nat.le_of_lt_succ hlt, fun hin => ?_, fun hout => ?_⟩
  · rw [if_pos hin, State.cell?_of_lt s hlt]
  · rw [if_neg (Nat.not_lt.mpr hout)]
    rfl

/-- The steps that a refresh operation in flight has still to take (41_digit_mux.md R141). -/
def MuxOp.stepsLeft : MuxOp → Nat
  | .idle => 0
  | .m1 => 4
  | .m2 _ => 3
  | .m3 _ _ => 2
  | .m4 _ _ _ => 1

/-- The steps that a scroll operation in flight has still to take (42_scroll.md R161). -/
def ScrollOp.stepsLeft : ScrollOp → Nat
  | .idle => 0
  | .s1 _ => 2
  | .s2 _ _ => 1

/-- The steps that both tick agents have still to take. -/
def State.stepsLeft (s : State) : Nat := s.mux.stepsLeft + s.scroll.stepsLeft

theorem MuxOp.stepsLeft_le (m : MuxOp) : m.stepsLeft ≤ 4 := by
  cases m <;> simp [MuxOp.stepsLeft]

theorem ScrollOp.stepsLeft_le (c : ScrollOp) : c.stepsLeft ≤ 2 := by
  cases c <;> simp [ScrollOp.stepsLeft]

theorem MuxOp.stepsLeft_eq_zero {m : MuxOp} : m.stepsLeft = 0 ↔ m = .idle := by
  cases m <;> simp [MuxOp.stepsLeft]

theorem ScrollOp.stepsLeft_eq_zero {c : ScrollOp} : c.stepsLeft = 0 ↔ c = .idle := by
  cases c <;> simp [ScrollOp.stepsLeft]

theorem State.stepsLeft_eq_zero {s : State} : s.stepsLeft = 0 ↔ s.mux = .idle ∧ s.scroll = .idle := by
  rw [State.stepsLeft, Nat.add_eq_zero_iff, MuxOp.stepsLeft_eq_zero, ScrollOp.stepsLeft_eq_zero]

/-- A step of `MUX` with an operation in flight completes and has one step fewer to go. -/
theorem muxStep_progress {s : State} (hs : StateInv s) (hop : s.mux ≠ .idle) :
    ∃ t, muxStep s = .next t ∧ t.stepsLeft + 1 = s.stepsLeft := by
  have hmux : ∃ t, muxStep s = .next t ∧ t.mux.stepsLeft + 1 = s.mux.stepsLeft ∧ t.scroll = s.scroll := by
    cases hm : s.mux with
    | idle => exact absurd hm hop
    | m1 => exact ⟨_, muxStep_of_m1 hm, rfl, rfl⟩
    | m2 w => exact ⟨_, muxStep_of_m2 hm, rfl, rfl⟩
    | m3 w l => exact ⟨_, muxStep_fetch hm (hs.fetchIndex_lt hm), rfl, rfl⟩
    | m4 w l c => exact ⟨_, muxStep_of_m4 hm, rfl, rfl⟩
  obtain ⟨t, hstep, hless, hscroll⟩ := hmux
  refine ⟨t, hstep, ?_⟩
  rw [State.stepsLeft, State.stepsLeft, hscroll, ← hless]
  omega

/-- A step of `SCROLL` with an operation in flight completes and has one step fewer to go. -/
theorem scrollStep_progress {s : State} (hop : s.scroll ≠ .idle) :
    ∃ t, scrollStep s = .next t ∧ t.stepsLeft + 1 = s.stepsLeft := by
  obtain ⟨hsc, -⟩ | ⟨l, hsc, hstep⟩ | ⟨l, w, hsc, hstep⟩ := scrollStep_cases s
  · exact absurd hsc hop
  · exact ⟨_, hstep, by simp [State.stepsLeft, hsc, ScrollOp.stepsLeft, Nat.add_assoc]⟩
  · exact ⟨_, hstep, by simp [State.stepsLeft, hsc, ScrollOp.stepsLeft]⟩

/-- With nothing scheduled a step completes; an agent in flight moves and has one step fewer to go, whichever of them it is
(60_exceptions.md R182). -/
theorem undriven_progress {s : State} (hs : StateInv s) : ∃ t, undriven s = .next t ∧ t.stepsLeft = s.stepsLeft - 1 := by
  suffices h : (undriven s = .next s ∧ s.stepsLeft = 0) ∨ ∃ t, undriven s = .next t ∧ t.stepsLeft + 1 = s.stepsLeft by
    obtain ⟨hstill, hzero⟩ | ⟨t, hmove, hless⟩ := h
    · exact ⟨s, hstill, by omega⟩
    · exact ⟨t, hmove, by omega⟩
  have hdrawn : StateInv s.drawn := { hs with }
  obtain ⟨hm, hu⟩ | ⟨hm, -, hu⟩ | ⟨hm, hsc, hu | hu⟩ := undriven_cases s <;> rw [hu]
  · by_cases hsc : s.scroll = .idle
    · exact .inl ⟨scrollStep_of_idle hsc, State.stepsLeft_eq_zero.mpr ⟨hm, hsc⟩⟩
    · exact .inr (scrollStep_progress hsc)
  · exact .inr (muxStep_progress hs hm)
  · exact .inr (muxStep_progress hdrawn hm)
  · exact .inr (scrollStep_progress (s := s.drawn) hsc)

/-- With nothing scheduled, as many steps as the tick agents have to take bring both to rest. -/
theorem run_finishes {n : Nat} {s : State} (hs : StateInv s) (hin : s.inputs = []) (hn : s.stepsLeft ≤ n) :
    ∃ t, Host.Core.run core n s = .next t ∧ t.stepsLeft = 0 := by
  induction n generalizing s with
  | zero => exact ⟨s, core_run_zero s, Nat.le_zero.mp hn⟩
  | succ n ih =>
    obtain ⟨u, hu, hless⟩ := undriven_progress hs
    have hstep : step s = .next u := (step_nil hin).trans hu
    obtain ⟨-, hin'⟩ := undriven_sameSetting hu
    rw [core_run_succ, hstep]
    exact ih (everyStepKeepsTheInvariant s u hs hstep) (hin'.trans hin) (by omega)

/-- Settles O9: at most four steps of `MUX` and two of `SCROLL` are left. -/
theorem inFlightOperationsFinish : Obligations.InFlightOperationsFinish := by
  unfold Obligations.InFlightOperationsFinish
  intro s hs hin
  have hsix : s.stepsLeft ≤ 6 := Nat.add_le_add s.mux.stepsLeft_le s.scroll.stepsLeft_le
  obtain ⟨t, hrun, hleft⟩ := run_finishes hs hin hsix
  exact ⟨t, hrun, State.stepsLeft_eq_zero.mp hleft⟩

end Sys2Proof.Machine
end

section
/-! PROOF. Who writes what: a store and its one cell, the single-writer policy, what a bus operation does not read, and that the steps of `MUX` and
of `SCROLL` commute (20_memory.md R51, R52, R55, R62). -/

namespace Sys2Proof.Machine

theorem State.cell?_storeCell_same {s : State} (h : Memory.wf s.cfg.greeting s.mem = true) {i : Nat} (hi : i < 50) (v : Byte) :
    (s.storeCell i v).cell? i = some v := by
  rw [State.cell?_of_lt _ hi, State.cell_storeCell_same h]

/-- Settles O48, from the read after a write and the canonical form kept. -/
theorem storeReplacesOneCell : Obligations.StoreReplacesOneCell := by
  unfold Obligations.StoreReplacesOneCell
  intro s i v h hi
  exact ⟨State.cell?_storeCell_same h hi v, fun j hj => State.cell?_storeCell_other s v hj.symm, Memory.wf_write h hi v⟩

/-- Settles O60: of the forms of a bus operation only the store changes a cell, and no tick agent does. -/
theorem onlyDataRxStores : Obligations.OnlyDataRxStores := by
  unfold Obligations.OnlyDataRxStores
  intro x s t hwf h hreset
  obtain ⟨i, hi, hbus⟩ | ⟨-, hmux | hscroll | ⟨hreset', -⟩⟩ := deliver_cases h
  · obtain hsame | ⟨d, rfl, -, hroom, rfl⟩ := hbus.cells_cases
    · exact .inl hsame
    · have hprintable : 0x20 ≤ d.toNat := of_decide_eq_true (wf_of_busEventOf hi)
      exact .inr ⟨d, hi, hprintable, hroom, State.cell?_storeCell_same hwf hroom d,
        fun j hj => State.cell?_storeCell_other s d hj.symm, rfl⟩
  · obtain ⟨p, ds, sg, m, rfl⟩ := hmux.frame
    exact .inl fun _ => rfl
  · obtain ⟨w, c, rfl⟩ := hscroll.frame
    exact .inl fun _ => rfl
  · cases hreset.symm.trans hreset'

/-- A choice that is neither a bus event nor a reset changes no cell, no length and no bus register (20_memory.md R55 (a), (c), (d)). -/
theorem deliver_tick_keeps_message {x : Input} {s t : State} (h : deliver x s = .next t) (hbus : isBusInput x = false)
    (hreset : isResetInput x = false) : SameCells s t ∧ t.length = s.length ∧ SameBus s t := by
  obtain ⟨i, hi, -⟩ | ⟨-, hmux | hscroll | ⟨hreset', -⟩⟩ := deliver_cases h
  · cases hbus.symm.trans (isBusInput_iff.mpr ⟨i, hi⟩)
  · obtain ⟨p, ds, sg, m, rfl⟩ := hmux.frame
    exact ⟨fun _ => rfl, rfl, rfl, rfl, rfl, rfl, rfl, rfl⟩
  · obtain ⟨w, c, rfl⟩ := hscroll.frame
    exact ⟨fun _ => rfl, rfl, rfl, rfl, rfl, rfl, rfl, rfl⟩
  · cases hreset.symm.trans hreset'

/-- Settles O55, from the frames of the three agents. -/
theorem singleWriterPolicy : Obligations.SingleWriterPolicy := by
  unfold Obligations.SingleWriterPolicy
  intro x s t h hreset
  refine ⟨fun hbus => deliver_tick_keeps_message h hbus hreset, fun hbus => ?_, fun hmux => ?_, fun hscroll => ?_⟩
  · obtain ⟨i, hi⟩ := isBusInput_iff.mp hbus
    exact (busMove_of_deliver hi h).window_cases.imp_left And.right
  · obtain ⟨p, ds, sg, m, rfl⟩ := (muxMove_of_deliver hmux h).frame
    exact ⟨fun _ => rfl, rfl, rfl, rfl⟩
  · obtain ⟨w, c, rfl⟩ := (scrollMove_of_deliver hscroll h).frame
    exact ⟨fun _ => rfl, rfl, ⟨rfl, rfl, rfl, rfl⟩, rfl⟩

/-- Two runs of one operation, from `s` to `t` and, with another `length` and `windowOffset`, to `t'`: they agree in everything but these two, and in
each of these two that the first run changed. -/
def AgreeButWindow (s t t' : State) : Prop :=
  t' = { t with length := t'.length, windowOffset := t'.windowOffset } ∧
    (t.length ≠ s.length → t'.length = t.length) ∧ (t.windowOffset ≠ s.windowOffset → t'.windowOffset = t.windowOffset)

section AgreeButWindow

variable {s t t' : State}

/-- The operation writes neither of the two registers. -/
theorem AgreeButWindow.of_untouched (h : t' = { t with length := t'.length, windowOffset := t'.windowOffset })
    (hl : t.length = s.length) (hw : t.windowOffset = s.windowOffset) : AgreeButWindow s t t' :=
  ⟨h, (absurd hl ·), (absurd hw ·)⟩

/-- The operation writes both registers, with the same values. -/
theorem AgreeButWindow.of_written (h : t' = { t with length := t'.length, windowOffset := t'.windowOffset })
    (hl : t'.length = t.length) (hw : t'.windowOffset = t.windowOffset) : AgreeButWindow s t t' :=
  ⟨h, fun _ => hl, fun _ => hw⟩

/-- The operation's guard reads neither register, so both runs take the same branch. -/
theorem AgreeButWindow.ite {u u' : State} {p : Prop} [Decidable p] (ht : AgreeButWindow s t t') (hu : AgreeButWindow s u u') :
    AgreeButWindow s (if p then t else u) (if p then t' else u') := by
  split_ifs
  · exact ht
  · exact hu

theorem AgreeButWindow.enter (h : AgreeButWindow s t t') (p : Proto) : AgreeButWindow s (t.enter p) (t'.enter p) := by
  obtain ⟨hrest, hl, hw⟩ := h
  exact ⟨congrArg (State.enter · p) hrest, hl, hw⟩

end AgreeButWindow

/-- No guard and no value of a bus operation reads `length` or `windowOffset`, and what it writes to them is `writeIndex` and 0. -/
theorem exec_agreeButWindow {i : Instr} (hbus : agentOf i = .bus) (s : State) (l w : Nat) :
    ∃ t t', exec i s = .next t ∧ exec i { s with length := l, windowOffset := w } = .next t' ∧ AgreeButWindow s t t' := by
  cases i with
  | slaW => exact ⟨_, _, rfl, rfl, rfl, (absurd rfl ·), fun _ => rfl⟩
  | dataRxTerm d => exact ⟨_, _, rfl, rfl, .ite (.of_written rfl rfl rfl) (.of_untouched rfl rfl rfl)⟩
  | dataRxChar d => exact ⟨_, _, rfl, rfl, .ite (.of_untouched rfl rfl rfl) (.of_untouched rfl rfl rfl)⟩
  | stopRstart => exact ⟨_, _, rfl, rfl, .enter (.ite (.of_written rfl rfl rfl) (.of_untouched rfl rfl rfl)) .idle⟩
  | slaR => exact ⟨_, _, rfl, rfl, .of_untouched rfl rfl rfl⟩
  | dataTxAck => exact ⟨_, _, rfl, rfl, .ite (.of_untouched rfl rfl rfl) (.of_untouched rfl rfl rfl)⟩
  | dataTxNack => exact ⟨_, _, rfl, rfl, .ite (.of_untouched rfl rfl rfl) (.of_untouched rfl rfl rfl)⟩
  | busOther cc => exact ⟨_, _, rfl, rfl, .of_untouched rfl rfl rfl⟩
  | tickRefresh => cases hbus
  | tickScroll => cases hbus
  | reset => cases hbus

/-- Settles O27, from the two runs of each operation. -/
theorem busReadsNeitherLengthNorOffset : Obligations.BusReadsNeitherLengthNorOffset :=
  fun _ s l w hbus => exec_agreeButWindow hbus s l w

/-- The state with other display registers and another refresh operation in flight. -/
def State.withDisplay (s : State) (p : Fin 4) (ds : DigitLines) (sg : Pattern) (m : MuxOp) : State :=
  { s with pos := p, digitSel := ds, seg := sg, mux := m }

/-- A step of `SCROLL`, delivered to an idle agent if it is a tick, completes and writes the same whatever the display registers and the refresh
operation in flight are; it writes the offset in S3 only. -/
theorem deliver_scroll_withDisplay {y : Input} (hy : isScrollInput y = true) {s : State} (htick : y ≠ .scrollStep → s.scroll = .idle) :
    ∃ w c, (w = s.windowOffset ∨ ∃ l w', s.scroll = .s2 l w') ∧ ∀ p ds sg m,
      deliver y (s.withDisplay p ds sg m) = .next ((s.withDisplay p ds sg m).withScroll w c s.inputs) := by
  obtain rfl | ⟨hne, hdeliver⟩ := deliver_of_scroll hy
  · obtain ⟨hsc, -⟩ | ⟨l, hsc, -⟩ | ⟨l, w, hsc, -⟩ := scrollStep_cases s
    · exact ⟨s.windowOffset, s.scroll, .inl rfl, fun p ds sg m => scrollStep_of_idle (s := s.withDisplay p ds sg m) hsc⟩
    · exact ⟨s.windowOffset, .s2 l s.windowOffset, .inl rfl, fun p ds sg m => scrollStep_of_s1 (s := s.withDisplay p ds sg m) hsc⟩
    · exact ⟨scrollNext w l, .idle, .inr ⟨l, w, hsc⟩, fun p ds sg m => scrollStep_of_s2 (s := s.withDisplay p ds sg m) hsc⟩
  · exact ⟨s.windowOffset, .s1 s.length, .inl rfl, fun _ _ _ _ => hdeliver ▸ execTickScroll_next.mpr ⟨htick hne, rfl⟩⟩

/-- Every step of `MUX`, the tick among them, reads no scroll operation, and the offset in M2 only. -/
theorem deliver_mux_withScroll {x : Input} (hx : isMuxInput x = true) {s : State} {w : Nat} (hw : s.mux = .m1 → w = s.windowOffset)
    (c : ScrollOp) (ys : List Input) : deliver x (s.withScroll w c ys) = mapNext (State.withScroll · w c ys) (deliver x s) := by
  obtain rfl | ⟨-, hdeliver⟩ := deliver_of_mux hx
  · exact muxStep_withScroll hw c ys
  · rw [hdeliver]
    symm
    exact apply_ite (mapNext _) _ _ _

/-- Settles O54: `SCROLL` does the same before and after `MUX`'s step, and `MUX` the same before and after `SCROLL`'s but where M2 reads the
offset that S3 writes. -/
theorem muxAndScrollStepsCommute : Obligations.MuxAndScrollStepsCommute := by
  unfold Obligations.MuxAndScrollStepsCommute
  intro s x y hx hy _ htick hpair
  obtain ⟨w, c, hwrites, hscroll⟩ := deliver_scroll_withDisplay hy htick
  have hoffset : s.mux = .m1 → w = s.windowOffset := fun hm => hwrites.resolve_right fun hs2 => hpair ⟨hm, hs2⟩
  have hfirst : deliver y s = .next (s.withScroll w c s.inputs) := hscroll s.pos s.digitSel s.seg s.mux
  rw [hfirst, andThen_next, deliver_mux_withScroll hx hoffset]
  cases hmux : deliver x s with
  | next t =>
    obtain ⟨p, ds, sg, m, rfl⟩ := (muxMove_of_deliver hx hmux).frame
    exact hscroll p ds sg m
  | fault r => rfl
  | refused r => rfl

end Sys2Proof.Machine
end

section
/-! PROOF. The write transaction: buffer and length change only in it, and until it commits, the length is the old one over the new message's first
bytes (20_memory.md R56, R64). -/

namespace Sys2Proof.Machine

/-- A bus operation writes `length` only as a commit: by a terminator, or by `STOP_RSTART` under `STOP_COMMITS_LENGTH`, in an accepting write
(20_memory.md R56). -/
theorem BusMove.length_cases {s t : State} {i : Instr} (h : BusMove s i t) :
    t.length = s.length ∨ s.accepting = true ∧
      ((∃ d, i = .dataRxTerm d) ∨ i = .stopRstart ∧ s.cfg.stopCommitsLength = true) := by
  cases h with
  | committed d hacc => exact .inr ⟨hacc, .inl ⟨d, rfl⟩⟩
  | stoppedCommitting hcfg hacc => exact .inr ⟨hacc, .inr ⟨rfl, hcfg⟩⟩
  | _ => exact .inl rfl

/-- Only `SLA_W` enters `ReceivingWrite` (20_memory.md R56). -/
theorem BusMove.enters_receivingWrite {s t : State} {i : Instr} (h : BusMove s i t) (ht : t.proto = .receivingWrite) :
    s.proto = .receivingWrite ∨ i = .slaW := by
  cases h with
  | opened => exact .inr rfl
  | stopped => cases ht
  | stoppedCommitting => cases ht
  | readOpened => cases ht
  | readEnded => cases ht
  | _ => exact .inl ht

/-- Outside `ReceivingWrite` a bus operation completes and changes no cell and not `length`. -/
theorem exec_outside_write {i : Instr} (hbus : agentOf i = .bus) {s : State} (hp : s.proto ≠ .receivingWrite) :
    ∃ t, exec i s = .next t ∧ SameCells s t ∧ t.length = s.length := by
  have hacc : ¬s.accepting = true := fun h => hp (State.accepting_iff.mp h).1
  obtain ⟨t, hexec, hmove⟩ := exec_busMove hbus s
  refine ⟨t, hexec, ?_, ?_⟩
  · exact hmove.cells_cases.resolve_right fun ⟨_, _, h, _⟩ => hacc h
  · exact hmove.length_cases.resolve_right fun ⟨h, _⟩ => hacc h

/-- Which choices write the buffer, write `length`, and enter `ReceivingWrite`. -/
theorem deliver_writes {x : Input} {s t : State} (h : deliver x s = .next t) (hreset : isResetInput x = false) :
    (SameCells s t ∨ s.proto = .receivingWrite ∧ ∃ d, busEventOf x = some (.dataRxChar d)) ∧
    (t.length = s.length ∨ s.proto = .receivingWrite ∧
      ((∃ d, busEventOf x = some (.dataRxTerm d)) ∨ busEventOf x = some .stopRstart ∧ s.cfg.stopCommitsLength = true)) ∧
    (t.proto = .receivingWrite → s.proto = .receivingWrite ∨ busEventOf x = some .slaW) := by
  obtain ⟨i, hi, hmove⟩ | ⟨hnone, -⟩ := deliver_cases h
  · rw [hi]
    refine ⟨hmove.cells_cases.imp_right ?_, hmove.length_cases.imp_right ?_, fun ht => (hmove.enters_receivingWrite ht).imp_right (congrArg some)⟩
    · rintro ⟨d, rfl, hacc, -⟩
      exact ⟨(State.accepting_iff.mp hacc).1, d, rfl⟩
    · rintro ⟨hacc, ⟨d, rfl⟩ | ⟨rfl, hcfg⟩⟩
      · exact ⟨(State.accepting_iff.mp hacc).1, .inl ⟨d, rfl⟩⟩
      · exact ⟨(State.accepting_iff.mp hacc).1, .inr ⟨rfl, hcfg⟩⟩
  · have hbus : isBusInput x = false := by simpa [hnone] using isBusInput_iff (x := x)
    obtain ⟨hcells, hlength, hproto, -⟩ := deliver_tick_keeps_message h hbus hreset
    exact ⟨.inl hcells, .inl hlength, fun ht => .inl (hproto.symm.trans ht)⟩

/-- The printable bytes that a list of choices delivers, in order. -/
def bytesReceived (xs : List Input) : List Byte := (xs.filterMap busEventOf).filterMap charOf

theorem bytesReceived_cons (x : Input) (xs : List Input) : bytesReceived (x :: xs) = bytesReceived [x] ++ bytesReceived xs := by
  rw [← List.singleton_append]
  simp only [bytesReceived, List.filterMap_append]

theorem bytesReceived_char {x : Input} {d : Byte} (hx : busEventOf x = some (.dataRxChar d)) : bytesReceived [x] = [d] := by
  simp [bytesReceived, hx, charOf]

/-- `WriteUnderWay s chars u`: in `u` a write that `s` began has received the bytes `chars` and has not ended: they stand in the first cells as far
as there is room, the other cells and `length` are those of `s` (20_memory.md R56, R64). -/
structure WriteUnderWay (s : State) (chars : List Byte) (u : State) : Prop where
  mem_wf : Memory.wf u.cfg.greeting u.mem = true
  accepting : u.accepting = true
  length_eq : u.length = s.length
  writeIndex_eq : u.writeIndex = min chars.length 50
  written : ∀ i, i < u.writeIndex → u.cell? i = chars[i]?
  unwritten : ∀ i, u.writeIndex ≤ i → u.cell? i = s.cell? i

/-- `SLA_W` begins a write that has received nothing. -/
theorem writeUnderWay_slaW {s : State} (h : Memory.wf s.cfg.greeting s.mem = true) :
    WriteUnderWay s [] { (s.enter .receivingWrite).openRx with writeIndex := 0, windowOffset := 0 } where
  mem_wf := h
  accepting := rfl
  length_eq := rfl
  writeIndex_eq := rfl
  written _ hi := absurd hi (Nat.not_lt_zero _)
  unwritten _ _ := rfl

/-- A printable byte is stored behind the ones before it. -/
theorem WriteUnderWay.stored {s u : State} {chars : List Byte} (h : WriteUnderWay s chars u) (hroom : u.writeIndex < 50) (d : Byte) :
    WriteUnderWay s (chars ++ [d]) { u.storeCell u.writeIndex d with writeIndex := u.writeIndex + 1 } := by
  have hcount : u.writeIndex = chars.length := by have := h.writeIndex_eq; omega
  refine ⟨Memory.wf_write h.mem_wf hroom d, h.accepting, h.length_eq, ?_, fun i hi => ?_, fun i hi => ?_⟩
  · simp only [List.length_append, List.length_singleton]
    omega
  · obtain hlt | rfl := Nat.lt_succ_iff_lt_or_eq.mp hi
    · rw [List.getElem?_append_left (hcount ▸ hlt), ← h.written i hlt]
      exact State.cell?_storeCell_other u d hlt.ne'
    · rw [hcount, List.getElem?_concat_length, ← hcount]
      exact State.cell?_storeCell_same h.mem_wf hroom d
  · rw [← h.unwritten i (Nat.le_of_succ_le hi)]
    exact State.cell?_storeCell_other u d (Nat.ne_of_lt hi)

/-- A printable byte for which there is no room is received and not stored. -/
theorem WriteUnderWay.dropped {s u : State} {chars : List Byte} (h : WriteUnderWay s chars u) (hfull : 50 ≤ u.writeIndex) (d : Byte) :
    WriteUnderWay s (chars ++ [d]) u := by
  have hcount := h.writeIndex_eq
  refine { h with writeIndex_eq := ?_, written := fun i hi => ?_ }
  · simp only [List.length_append, List.length_singleton]
    omega
  · rw [List.getElem?_append_left (by omega)]
    exact h.written i hi

/-- The bus events that neither end nor commit nor restart a write: a printable byte, and those that a write does not expect. -/
theorem busEvent_of_keepsWriteOpen {x : Input} {i : Instr} (hx : keepsWriteOpen x = true) (hi : busEventOf x = some i) :
    (∃ d, i = .dataRxChar d) ∨ i = .dataTxAck ∨ i = .dataTxNack ∨ ∃ cc, i = .busOther cc := by
  cases x with
  | event ev =>
    simp only [busEventOf] at hi
    split_ifs at hi with hbus
    cases hi
    simp only [keepsWriteOpen] at hx
    cases hdec : decode ev <;> simp_all [agentOf]
  | muxStep => cases hi
  | scrollStep => cases hi

theorem isResetInput_of_keepsWriteOpen {x : Input} (hx : keepsWriteOpen x = true) : isResetInput x = false := by
  cases x with
  | event ev =>
    refine decide_eq_false fun hdec => ?_
    simp [keepsWriteOpen, hdec] at hx
  | muxStep => rfl
  | scrollStep => rfl

/-- In an accepting write the events of a read, and other bus conditions, change nothing (40_bus_slave.md R109, R110). -/
theorem BusMove.eq_of_accepting {s t : State} {i : Instr} (h : BusMove s i t) (hacc : s.accepting = true)
    (hi : i = .dataTxAck ∨ i = .dataTxNack ∨ ∃ cc, i = .busOther cc) : t = s := by
  have hproto : s.proto ≠ .transmittingRead := by simp [(State.accepting_iff.mp hacc).1]
  obtain rfl | rfl | ⟨cc, rfl⟩ := hi
  · cases h with
    | nothing => rfl
    | readAdvanced htx => exact absurd htx hproto
  · cases h with
    | nothing => rfl
    | readEnded htx => exact absurd htx hproto
  · cases h
    rfl

/-- A choice that keeps the write open leaves it under way, with the byte received if it delivers one. -/
theorem WriteUnderWay.deliver_next {s u t : State} {chars : List Byte} {x : Input} (h : WriteUnderWay s chars u)
    (hx : keepsWriteOpen x = true) (hd : deliver x u = .next t) : WriteUnderWay s (chars ++ bytesReceived [x]) t := by
  obtain ⟨i, hi, hmove⟩ | ⟨hnone, hrest⟩ := deliver_cases hd
  · obtain ⟨d, rfl⟩ | hother := busEvent_of_keepsWriteOpen hx hi
    · rw [bytesReceived_char hi]
      cases hmove with
      | nothing hfull => exact h.dropped (hfull d rfl h.accepting) d
      | stored _ _ hroom => exact h.stored hroom d
    · have hnothing : bytesReceived [x] = [] := by
        obtain rfl | rfl | ⟨cc, rfl⟩ := hother <;> simp [bytesReceived, hi, charOf]
      rw [hmove.eq_of_accepting h.accepting hother, hnothing, List.append_nil]
      exact h
  · have hnothing : bytesReceived [x] = [] := by simp [bytesReceived, hnone]
    rw [hnothing, List.append_nil]
    obtain hmux | hscroll | ⟨hreset, -⟩ := hrest
    · obtain ⟨p, ds, sg, m, rfl⟩ := hmux.frame
      exact { h with }
    · obtain ⟨w, c, rfl⟩ := hscroll.frame
      exact { h with }
    · cases (isResetInput_of_keepsWriteOpen hx).symm.trans hreset

/-- Any choices that keep the write open leave it under way, with every byte they deliver received. -/
theorem WriteUnderWay.deliverAll_next {s u t : State} {chars : List Byte} {ys : List Input} (h : WriteUnderWay s chars u)
    (hys : ys.all keepsWriteOpen = true) (hd : deliverAll ys u = .next t) : WriteUnderWay s (chars ++ bytesReceived ys) t := by
  induction ys generalizing chars u with
  | nil =>
    cases hd
    simpa [bytesReceived] using h
  | cons y ys ih =>
    obtain ⟨hy, hys⟩ := Bool.and_eq_true_iff.mp hys
    obtain ⟨v, hv, hrest⟩ := andThen_eq_next hd
    rw [bytesReceived_cons, ← List.append_assoc]
    exact ih (h.deliver_next hy hv) hys hrest

/-- Settles O56: the first two parts from the forms of a bus operation, the third by the invariant of a write under way. -/
theorem writerActsOnlyInAWrite : Obligations.WriterActsOnlyInAWrite := by
  unfold Obligations.WriterActsOnlyInAWrite
  refine ⟨fun _ _ hbus hp => exec_outside_write hbus hp, fun _ _ _ h hreset => deliver_writes h hreset, ?_⟩
  intro s t ys hwf hys h
  obtain ⟨u, hu, hrest⟩ := andThen_eq_next h
  have hslaW : execSlaW s = .next u := hu
  cases hslaW
  have hend := (writeUnderWay_slaW hwf).deliverAll_next hys hrest
  rw [List.nil_append] at hend
  exact ⟨hend.length_eq, hend.writeIndex_eq, hend.written, hend.unwritten⟩

end Sys2Proof.Machine
end

section
/-! PROOF. The encoding: the decoder on the word of given fields, and the rows of the event table as conditions on a word's fields
(30_encoding.md R81, R84, R85). -/

namespace Sys2Proof

/-! The decoder on a word of bus source. -/

@[simp] theorem decode_evWord_bus (cc d : Byte) : decode (evWord 0b00#2 cc d) = decodeBus cc d := by
  simp [decode]

theorem decodeBus_term {d : Byte} (h : d.toNat < 0x20) : decodeBus 0x80#8 d = .dataRxTerm d := by
  simp [decodeBus, (isTerminator_iff d).mpr h]

theorem decodeBus_char {d : Byte} (h : 0x20 ≤ d.toNat) : decodeBus 0x80#8 d = .dataRxChar d := by
  have hnot : ¬ isTerminator d = true := fun hterm => absurd ((isTerminator_iff d).mp hterm) (by omega)
  simp [decodeBus, hnot]

theorem decodeBus_other {cc : Byte} (d : Byte) (h : recognisedCode cc = false) : decodeBus cc d = .busOther cc := by
  simp_all [decodeBus, recognisedCode]

/-- Decoding undoes the encoding of a well-formed event: its `src` field selects the rows of its agent, and the operand range of
`Instr.wf` the row among them. -/
theorem decode_encode {i : Instr} (h : i.wf = true) : decode (encode i) = i := by
  cases i with
  | dataRxTerm d => exact (decode_evWord_bus _ d).trans (decodeBus_term (of_decide_eq_true h))
  | dataRxChar d => exact (decode_evWord_bus _ d).trans (decodeBus_char (of_decide_eq_true h))
  | busOther cc => exact (decode_evWord_bus cc _).trans (decodeBus_other _ (by simpa [Instr.wf] using h))
  | slaW | stopRstart | slaR | dataTxAck | dataTxNack => exact decode_evWord_bus _ _
  | tickRefresh | tickScroll | reset => rfl

/-! A word and its fields. -/

theorem setWidth_eq_evData (ev : EventWord) : ev.setWidth 8 = evData ev := by
  ext i hi
  simp [evData]

theorem evData_shiftRight (ev : EventWord) : evData (ev >>> 8) = evCode ev := by
  ext i hi
  simp [evData, evCode]

theorem evWord_fields (ev : EventWord) : evWord (evSrc ev) (evCode ev) (evData ev) = ev := by
  ext i hi
  interval_cases i <;> simp [evWord, evSrc, evCode, evData]

/-- A word is known by its three fields. -/
theorem eventWord_eq_iff {ev m : EventWord} : ev = m ↔ evSrc ev = evSrc m ∧ evCode ev = evCode m ∧ evData ev = evData m := by
  refine ⟨fun h => h ▸ ⟨rfl, rfl, rfl⟩, fun ⟨hsrc, hcode, hdata⟩ => ?_⟩
  rw [← evWord_fields ev, hsrc, hcode, hdata, evWord_fields]

@[simp] theorem evSrc_and (a b : EventWord) : evSrc (a &&& b) = evSrc a &&& evSrc b := BitVec.extractLsb'_and
@[simp] theorem evCode_and (a b : EventWord) : evCode (a &&& b) = evCode a &&& evCode b := BitVec.extractLsb'_and
@[simp] theorem evData_and (a b : EventWord) : evData (a &&& b) = evData a &&& evData b := BitVec.extractLsb'_and

/-! The fields of a mask or match written as a number. -/

/-- A field that lies inside the word, of a word written as a number. -/
theorem extractLsb'_ofNat {w lo len : Nat} (h : lo + len ≤ w) (n : Nat) :
    (BitVec.ofNat w n).extractLsb' lo len = BitVec.ofNat len (n >>> lo) := by
  apply BitVec.eq_of_getLsbD_eq
  intro i hi
  have hbit : lo + i < w := by omega
  simp only [BitVec.getLsbD_extractLsb', BitVec.getLsbD_ofNat, Nat.testBit_shiftRight, hi, hbit, decide_true, Bool.true_and]

@[simp] theorem evSrc_ofNat (n : Nat) : evSrc (BitVec.ofNat 18 n) = BitVec.ofNat 2 (n >>> 16) := extractLsb'_ofNat (by decide) n
@[simp] theorem evCode_ofNat (n : Nat) : evCode (BitVec.ofNat 18 n) = BitVec.ofNat 8 (n >>> 8) := extractLsb'_ofNat (by decide) n
@[simp] theorem evData_ofNat (n : Nat) : evData (BitVec.ofNat 18 n) = BitVec.ofNat 8 n := extractLsb'_ofNat (by decide) n

@[simp] theorem src_and_ones (src : BitVec 2) : src &&& 0b11#2 = src := BitVec.and_allOnes
@[simp] theorem byte_and_ones (b : Byte) : b &&& 0xFF#8 = b := BitVec.and_allOnes

/-- The three high bits of a byte are 0 exactly below 0x20. -/
theorem byte_and_0xE0_eq_zero_iff : ∀ b : Byte, b &&& 0xE0#8 = 0#8 ↔ b.toNat < 0x20 := by decide

/-! The three masks of the table's rows, each by the fields it compares. -/

/-- A row that compares `src` and `cc`. -/
theorem meets_codeRow_iff {ev m : EventWord} (hdata : evData m = 0#8) :
    ev &&& 0x3FF00#18 = m ↔ evSrc ev = evSrc m ∧ evCode ev = evCode m := by
  simp [eventWord_eq_iff, hdata]

/-- A row that compares `src`, `cc` and the three high bits of `d`. -/
theorem meets_termRow_iff {ev m : EventWord} (hdata : evData m = 0#8) :
    ev &&& 0x3FFE0#18 = m ↔ evSrc ev = evSrc m ∧ evCode ev = evCode m ∧ isTerminator (evData ev) = true := by
  simp [eventWord_eq_iff, hdata, byte_and_0xE0_eq_zero_iff, isTerminator_iff]

/-- A row that compares `src` alone. -/
theorem meets_srcRow_iff {ev m : EventWord} (hcode : evCode m = 0#8) (hdata : evData m = 0#8) :
    ev &&& 0x30000#18 = m ↔ evSrc ev = evSrc m := by
  simp [eventWord_eq_iff, hcode, hdata]

namespace Machine

/-- The table on a word of bus source: its rows 1 to 8 compare the code, and one of them the byte, as `decodeBus` does. -/
theorem firstTableRow_bus {ev : EventWord} (h : evSrc ev = 0b00#2) : firstTableRow ev = decodeBus (evCode ev) (evData ev) := by
  simp (disch := decide) only [firstTableRow, meets_codeRow_iff, meets_termRow_iff, meets_srcRow_iff, setWidth_eq_evData,
    evData_shiftRight]
  by_cases hcode : evCode ev = 0x80#8
  · simp [h, hcode, decodeBus]
  · simp [h, hcode, decodeBus]

/-- The table on a word of another source: no row that compares a code is met, and the last three go by the source. -/
theorem firstTableRow_other {ev : EventWord} (h : evSrc ev ≠ 0b00#2) :
    firstTableRow ev = if evSrc ev = 0b01#2 then .tickRefresh else if evSrc ev = 0b10#2 then .tickScroll else .reset := by
  simp (disch := decide) [firstTableRow, meets_codeRow_iff, meets_termRow_iff, meets_srcRow_iff, h]

/-- Settles O1, event by event: the fields of the canonical word, and the operand range of `Instr.wf`. -/
theorem decodeOfEncodeIsTheEvent : Obligations.DecodeOfEncodeIsTheEvent := by
  unfold Obligations.DecodeOfEncodeIsTheEvent
  intro i h
  exact decode_encode h

/-- Settles O2, a word of bus source by its code and byte, any other by its source. -/
theorem decodeTakesTheFirstTableRow : Obligations.DecodeTakesTheFirstTableRow := by
  unfold Obligations.DecodeTakesTheFirstTableRow
  intro ev
  by_cases h : evSrc ev = 0b00#2
  · rw [firstTableRow_bus h, decode, if_pos h]
  · rw [firstTableRow_other h, decode, if_neg h]

/-- Settles O3: fourteen closed words, each decoded by computation. -/
theorem specWordsDecode : Obligations.SpecWordsDecode := by
  unfold Obligations.SpecWordsDecode
  decide

end Machine
end Sys2Proof
end

section
/-! PROOF. The bus operations one at a time: an equation for each case of each event, its effect and what it leaves alone, the transition table, and
that none of them reads or writes the display (40_bus_slave.md R101 to R112). -/

namespace Sys2Proof.Machine

/-! What each event's operation does, case by case. -/

section BusEquations

variable {s : State}

theorem exec_slaW (s : State) : exec .slaW s = .next { (s.enter .receivingWrite).openRx with writeIndex := 0, windowOffset := 0 } := rfl

theorem exec_slaR (s : State) :
    exec .slaR s = .next ({ s.enter .transmittingRead with readIndex := readStartIndex s }.fetchTx (readStartIndex s)) := rfl

theorem exec_dataRxTerm_of_accepting (d : Byte) (h : s.accepting = true) : exec (.dataRxTerm d) s = .next s.commitLength.closeRx :=
  congrArg Host.Outcome.next (if_pos h)

theorem exec_dataRxTerm_of_not (d : Byte) (h : ¬s.accepting = true) : exec (.dataRxTerm d) s = .next s :=
  congrArg Host.Outcome.next (if_neg h)

theorem exec_dataRxChar_of_room (d : Byte) (h : s.accepting = true ∧ s.writeIndex < 50) :
    exec (.dataRxChar d) s = .next { s.storeCell s.writeIndex d with writeIndex := s.writeIndex + 1 } :=
  congrArg Host.Outcome.next (if_pos (by simpa using h))

theorem exec_dataRxChar_of_not (d : Byte) (h : ¬(s.accepting = true ∧ s.writeIndex < 50)) : exec (.dataRxChar d) s = .next s :=
  congrArg Host.Outcome.next (if_neg (by simpa using h))

theorem exec_stopRstart_of_commit (h : s.cfg.stopCommitsLength = true ∧ s.accepting = true) :
    exec .stopRstart s = .next (s.commitLength.enter .idle) :=
  congrArg (fun t : State => Host.Outcome.next (t.enter .idle)) (if_pos (by simpa using h))

theorem exec_stopRstart_of_not (h : ¬(s.cfg.stopCommitsLength = true ∧ s.accepting = true)) :
    exec .stopRstart s = .next (s.enter .idle) :=
  congrArg (fun t : State => Host.Outcome.next (t.enter .idle)) (if_neg (by simpa using h))

theorem exec_dataTxAck_of_read (h : s.proto = .transmittingRead) :
    exec .dataTxAck s = .next ({ s with readIndex := s.readIndex + 1 }.fetchTx (s.readIndex + 1)) :=
  congrArg Host.Outcome.next (if_pos h)

theorem exec_dataTxAck_of_not (h : s.proto ≠ .transmittingRead) : exec .dataTxAck s = .next s :=
  congrArg Host.Outcome.next (if_neg h)

theorem exec_dataTxNack_of_read (h : s.proto = .transmittingRead) : exec .dataTxNack s = .next (s.enter .idle) :=
  congrArg Host.Outcome.next (if_pos h)

theorem exec_dataTxNack_of_not (h : s.proto ≠ .transmittingRead) : exec .dataTxNack s = .next s :=
  congrArg Host.Outcome.next (if_neg h)

theorem exec_busOther (cc : Byte) (s : State) : exec (.busOther cc) s = .next s := rfl

end BusEquations

/-- The word `RX d` of 30_encoding.md R90, as a sum, is the word of its fields. -/
theorem rxWord_eq (d : Byte) : 0x08000#18 + d.setWidth 18 = evWord 0b00#2 0x80#8 d := by
  have hdisjoint : 0x08000#18 &&& d.setWidth 18 = 0#18 := by
    ext i hi
    interval_cases i <;> simp
  rw [BitVec.add_eq_or_of_and_eq_zero _ _ hdisjoint]
  rfl

theorem decode_rxWord_char {d : Byte} (h : 0x20 ≤ d.toNat) : decode (0x08000#18 + d.setWidth 18) = .dataRxChar d := by
  rw [rxWord_eq, decode_evWord_bus, decodeBus_char h]

theorem decode_rxWord_term {d : Byte} (h : d.toNat < 0x20) : decode (0x08000#18 + d.setWidth 18) = .dataRxTerm d := by
  rw [rxWord_eq, decode_evWord_bus, decodeBus_term h]

/-- The byte that a transmit fetch writes to `txData`, and the free value it uses up past cell 49 (20_memory.md R53). -/
theorem State.fetchTx_reads (s : State) (i : Nat) :
    (i < 50 → s.cell? i = some (s.fetchTx i).txData ∧ (s.fetchTx i).draws = s.draws) ∧
    (50 ≤ i → (s.fetchTx i).txData = Config.freeByte s.draws ∧ (s.fetchTx i).draws = s.draws + 1) := by
  refine ⟨fun h => ⟨?_, if_pos h⟩, fun h => ⟨txByte_of_le s h, if_neg (Nat.not_lt.mpr h)⟩⟩
  rw [State.cell?_of_lt s h, State.fetchTx_txData, txByte_of_lt s h]

theorem readStartIndex_eq (s : State) : readStartIndex s = if s.cfg.readStart = .zero then 0 else s.writeIndex := by
  unfold readStartIndex
  cases s.cfg.readStart <;> rfl

/-- Settles O15, from the equation of `SLA_W`; its result is a fixed point of it. -/
theorem writeMatchOpensTheTransaction : Obligations.WriteMatchOpensTheTransaction := by
  unfold Obligations.WriteMatchOpensTheTransaction
  exact ⟨decode_word_slaW, fun s => ⟨_, exec_slaW s, rfl, rfl, rfl, rfl, fun _ => rfl, rfl, rfl, rfl, rfl, ⟨rfl, rfl, rfl, rfl⟩,
    ⟨rfl, rfl⟩, ⟨rfl, rfl⟩, rfl, rfl, rfl⟩⟩

/-- Settles O16: with room the store of one cell, else nothing. -/
theorem printableByteIsStoredOrDropped : Obligations.PrintableByteIsStoredOrDropped := by
  unfold Obligations.PrintableByteIsStoredOrDropped
  refine ⟨fun _ => decode_rxWord_char, fun s d hwf hproto hopen hroom => ?_, fun s d hnot => ?_⟩
  · have hacc := State.accepting_iff.mpr ⟨hproto, hopen⟩
    exact ⟨_, exec_dataRxChar_of_room d ⟨hacc, hroom⟩, State.cell?_storeCell_same hwf hroom d,
      fun _ hi => State.cell?_storeCell_other s d hi.symm, rfl, rfl, rfl, rfl, rfl, rfl, rfl, rfl, ⟨rfl, rfl, rfl, rfl⟩, ⟨rfl, rfl⟩,
      ⟨rfl, rfl⟩, rfl, rfl⟩
  · exact exec_dataRxChar_of_not d (by rwa [State.accepting_iff, and_assoc])

/-- Settles O17: in an accepting write the commit, else nothing. -/
theorem terminatorCommitsTheLength : Obligations.TerminatorCommitsTheLength := by
  unfold Obligations.TerminatorCommitsTheLength
  refine ⟨fun _ => decode_rxWord_term, fun s d hproto hopen => ?_, fun s d hnot => ?_⟩
  · exact ⟨_, exec_dataRxTerm_of_accepting d (State.accepting_iff.mpr ⟨hproto, hopen⟩), rfl, rfl, rfl, fun _ => rfl, rfl, rfl, rfl, rfl,
      rfl, ⟨rfl, rfl, rfl, rfl⟩, ⟨rfl, rfl⟩, ⟨rfl, rfl⟩, rfl, rfl⟩
  · exact exec_dataRxTerm_of_not d (mt State.accepting_iff.mp hnot)

/-- Settles O18, by whether the `STOP_RSTART` commits. -/
theorem stopEndsTheTransaction : Obligations.StopEndsTheTransaction := by
  unfold Obligations.StopEndsTheTransaction
  refine ⟨decode_word_stopRstart, fun s => ?_⟩
  rw [← State.accepting_iff]
  by_cases hcommit : s.cfg.stopCommitsLength = true ∧ s.accepting = true
  · exact ⟨_, exec_stopRstart_of_commit hcommit, rfl, fun _ => ⟨rfl, rfl⟩, (absurd hcommit ·), fun _ => rfl, rfl, rfl, rfl, rfl, rfl,
      ⟨rfl, rfl, rfl, rfl⟩, ⟨rfl, rfl⟩, ⟨rfl, rfl⟩, rfl, rfl⟩
  · exact ⟨_, exec_stopRstart_of_not hcommit, rfl, (absurd · hcommit), fun _ => ⟨rfl, rfl⟩, fun _ => rfl, rfl, rfl, rfl, rfl, rfl,
      ⟨rfl, rfl, rfl, rfl⟩, ⟨rfl, rfl⟩, ⟨rfl, rfl⟩, rfl, rfl⟩

/-- Settles O19, from the start cursor and the transmit fetch at it. -/
theorem readMatchStartsTheStream : Obligations.ReadMatchStartsTheStream := by
  unfold Obligations.ReadMatchStartsTheStream
  refine ⟨decode_word_slaR, fun s => ?_⟩
  obtain ⟨hcell, hdraw⟩ := State.fetchTx_reads { s.enter .transmittingRead with readIndex := readStartIndex s } (readStartIndex s)
  exact ⟨_, exec_slaR s, rfl, readStartIndex_eq s, hcell, hdraw, fun _ => rfl, rfl, rfl, rfl, rfl, rfl, ⟨rfl, rfl, rfl, rfl⟩,
    ⟨rfl, rfl⟩, ⟨rfl, rfl⟩, rfl⟩

/-- Settles O20: in a read the transmit fetch one cell further, else nothing. -/
theorem acknowledgedByteAdvancesTheStream : Obligations.AcknowledgedByteAdvancesTheStream := by
  unfold Obligations.AcknowledgedByteAdvancesTheStream
  refine ⟨decode_word_dataTxAck, fun s hread => ?_, fun s => exec_dataTxAck_of_not⟩
  obtain ⟨hcell, hdraw⟩ := State.fetchTx_reads { s with readIndex := s.readIndex + 1 } (s.readIndex + 1)
  exact ⟨_, exec_dataTxAck_of_read hread, rfl, hcell, hdraw, fun _ => rfl, rfl, rfl, rfl, rfl, rfl, rfl, ⟨rfl, rfl, rfl, rfl⟩,
    ⟨rfl, rfl⟩, ⟨rfl, rfl⟩, rfl⟩

/-- Settles O21: in a read only `proto` changes, else nothing. -/
theorem unacknowledgedByteEndsTheRead : Obligations.UnacknowledgedByteEndsTheRead := by
  unfold Obligations.UnacknowledgedByteEndsTheRead
  refine ⟨decode_word_dataTxNack, fun s hread => ?_, fun s => exec_dataTxNack_of_not⟩
  exact ⟨_, exec_dataTxNack_of_read hread, rfl, fun _ => rfl, rfl, rfl, rfl, rfl, rfl, rfl, rfl, ⟨rfl, rfl, rfl, rfl⟩, ⟨rfl, rfl⟩,
    ⟨rfl, rfl⟩, rfl, rfl⟩

/-- Settles O22: a code that is none of the six decodes to `BUS_OTHER`, whose operation is empty. -/
theorem otherBusConditionChangesNothing : Obligations.OtherBusConditionChangesNothing := by
  unfold Obligations.OtherBusConditionChangesNothing
  intro s cc d h60 h80 hA0 hA8 hB8 hC0
  have hcode : recognisedCode cc = false := by simp [recognisedCode, h60, h80, hA0, hA8, hB8, hC0]
  exact ⟨(decode_evWord_bus cc d).trans (decodeBus_other d hcode), exec_busOther cc s⟩

/-- Settles O23: outside a write nothing is accepted, and outside a read nothing is sent. -/
theorem unexpectedEventsChangeNothing : Obligations.UnexpectedEventsChangeNothing := by
  unfold Obligations.UnexpectedEventsChangeNothing
  refine fun s d => ⟨fun hproto => ?_, fun hproto => ⟨exec_dataTxAck_of_not hproto, exec_dataTxNack_of_not hproto⟩⟩
  have hacc : ¬s.accepting = true := fun h => hproto (State.accepting_iff.mp h).1
  exact ⟨exec_dataRxChar_of_not d fun h => hacc h.1, exec_dataRxTerm_of_not d hacc⟩

/-- Settles O24, from the equations of the two address matches. -/
theorem addressMatchCommitsNothing : Obligations.AddressMatchCommitsNothing := by
  unfold Obligations.AddressMatchCommitsNothing
  exact fun s => ⟨⟨_, exec_slaW s, rfl, rfl⟩, ⟨_, exec_slaR s, rfl, rfl, rfl⟩⟩

/-! The transition table. -/

/-- A guarded update that writes `proto` in neither branch keeps it. -/
theorem proto_ite {s t u : State} {p : Prop} [Decidable p] (ht : t.proto = s.proto) (hu : u.proto = s.proto) :
    (if p then t else u).proto = s.proto := by
  split_ifs
  · exact ht
  · exact hu

/-- The table keeps `proto` for a `DATA_TX_NACK` outside a read. -/
theorem protoTable_dataTxNack_of_not {p : Proto} (h : p ≠ .transmittingRead) : protoTable p .dataTxNack = p := by
  cases p with
  | idle => rfl
  | receivingWrite => rfl
  | transmittingRead => exact absurd rfl h

/-- Settles O25, event by event. -/
theorem protoFollowsTheTransitionTable : Obligations.ProtoFollowsTheTransitionTable := by
  unfold Obligations.ProtoFollowsTheTransitionTable
  intro i s t h
  cases i with
  | slaW => cases h; rfl
  | dataRxTerm d => cases h; exact proto_ite rfl rfl
  | dataRxChar d => cases h; exact proto_ite rfl rfl
  | stopRstart => cases h; rfl
  | slaR => cases h; rfl
  | dataTxAck => cases h; exact proto_ite rfl rfl
  | dataTxNack =>
    by_cases hread : s.proto = .transmittingRead
    · cases (exec_dataTxNack_of_read hread).symm.trans h
      rw [hread]
      rfl
    · cases (exec_dataTxNack_of_not hread).symm.trans h
      exact (protoTable_dataTxNack_of_not hread).symm
  | busOther cc => cases h; rfl
  | tickRefresh =>
    obtain ⟨-, rfl⟩ := execTickRefresh_next.mp h
    rfl
  | tickScroll =>
    obtain ⟨-, rfl⟩ := execTickScroll_next.mp h
    rfl
  | reset => cases h; rfl

/-! The bus and the display. -/

/-- Settles O26, from the frame that all forms of a bus operation share. -/
theorem busLeavesTheDisplayAlone : Obligations.BusLeavesTheDisplayAlone := by
  unfold Obligations.BusLeavesTheDisplayAlone
  intro i s hbus
  obtain ⟨t, hexec, hmove⟩ := exec_busMove hbus s
  obtain ⟨hdisplay, hflight, hcfg, hack, -⟩ := hmove.frame
  exact ⟨t, hexec, hdisplay, hflight, hcfg, hack⟩

/-- The state with other display registers and other tick operations in flight. -/
def State.withTickState (s : State) (p : Fin 4) (ds : DigitLines) (sg : Pattern) (dpt : BitVec 1) (m : MuxOp) (sc : ScrollOp) : State :=
  { s with pos := p, digitSel := ds, seg := sg, dp := dpt, mux := m, scroll := sc }

/-- No guard and no value of a bus operation reads the display registers or the tick operations in flight (40_bus_slave.md R107). -/
theorem exec_withTickState {i : Instr} (hbus : agentOf i = .bus) (s : State) (p : Fin 4) (ds : DigitLines) (sg : Pattern) (dpt : BitVec 1)
    (m : MuxOp) (sc : ScrollOp) :
    exec i (s.withTickState p ds sg dpt m sc) = mapNext (State.withTickState · p ds sg dpt m sc) (exec i s) := by
  symm
  cases i with
  | slaW => rfl
  | dataRxTerm d => exact congrArg Host.Outcome.next (apply_ite (State.withTickState · p ds sg dpt m sc) _ _ _)
  | dataRxChar d => exact congrArg Host.Outcome.next (apply_ite (State.withTickState · p ds sg dpt m sc) _ _ _)
  | stopRstart =>
    exact congrArg (fun t : State => Host.Outcome.next (t.enter .idle)) (apply_ite (State.withTickState · p ds sg dpt m sc) _ _ _)
  | slaR => rfl
  | dataTxAck => exact congrArg Host.Outcome.next (apply_ite (State.withTickState · p ds sg dpt m sc) _ _ _)
  | dataTxNack => exact congrArg Host.Outcome.next (apply_ite (State.withTickState · p ds sg dpt m sc) _ _ _)
  | busOther cc => rfl
  | tickRefresh => cases hbus
  | tickScroll => cases hbus
  | reset => cases hbus

/-- Settles O28: the operation completes, and commutes with the change of the display registers and temporaries. -/
theorem busReadsNoDisplayState : Obligations.BusReadsNoDisplayState := by
  unfold Obligations.BusReadsNoDisplayState
  intro i s p ds sg dpt m sc hbus
  obtain ⟨t, hexec, -⟩ := exec_busMove hbus s
  refine ⟨t, hexec, (exec_withTickState hbus s p ds sg dpt m sc).trans ?_⟩
  rw [hexec]
  rfl

end Sys2Proof.Machine
end

section
/-! PROOF. A whole write: what its terminator leaves whatever tick steps fall inside it, and that a write with nothing between completes and touches
neither the display nor the read registers (40_bus_slave.md R113, R114). -/

namespace Sys2Proof.Machine

/-! The steps of the tick agents before and inside a write. -/

/-- `t` has the buffer of `s`, as the configuration, the list of cells and the epoch together give it. -/
def SameBuffer (s t : State) : Prop := t.cfg = s.cfg ∧ t.mem = s.mem ∧ t.epoch = s.epoch

/-- A choice that is no bus event and no reset leaves the buffer as it is (20_memory.md R55). -/
theorem deliver_sameBuffer {x : Input} {s t : State} (h : deliver x s = .next t) (hnone : busEventOf x = none)
    (hreset : isResetInput x = false) : SameBuffer s t := by
  obtain ⟨i, hi, -⟩ | ⟨-, hmux | hscroll | ⟨hreset', -⟩⟩ := deliver_cases h
  · cases hnone.symm.trans hi
  · obtain ⟨p, ds, sg, m, rfl⟩ := hmux.frame
    exact ⟨rfl, rfl, rfl⟩
  · obtain ⟨w, c, rfl⟩ := hscroll.frame
    exact ⟨rfl, rfl, rfl⟩
  · cases hreset.symm.trans hreset'

theorem deliverAll_sameBuffer {xs : List Input} {s t : State} (h : deliverAll xs s = .next t) (hnone : ∀ x ∈ xs, busEventOf x = none)
    (hreset : ∀ x ∈ xs, isResetInput x = false) : SameBuffer s t := by
  induction xs generalizing s with
  | nil =>
    cases h
    exact ⟨rfl, rfl, rfl⟩
  | cons x xs ih =>
    obtain ⟨hx, hxs⟩ := List.forall_mem_cons.mp hnone
    obtain ⟨hxr, hxsr⟩ := List.forall_mem_cons.mp hreset
    obtain ⟨u, hu, hrest⟩ := andThen_eq_next h
    obtain ⟨hcfg, hmem, hepoch⟩ := deliver_sameBuffer hu hx hxr
    obtain ⟨hcfg', hmem', hepoch'⟩ := ih hrest hxs hxsr
    exact ⟨hcfg'.trans hcfg, hmem'.trans hmem, hepoch'.trans hepoch⟩

/-- A choice that delivers a printable byte, or neither a bus event nor a reset, keeps a write open. -/
theorem keepsWriteOpen_of_char {x : Input} (hbus : ∀ i, busEventOf x = some i → ∃ d, i = .dataRxChar d) (hreset : isResetInput x = false) :
    keepsWriteOpen x = true := by
  cases x with
  | event ev =>
    simp only [busEventOf, isResetInput, keepsWriteOpen] at hbus hreset ⊢
    cases hdec : decode ev <;> simp_all [agentOf]
  | muxStep => rfl
  | scrollStep => rfl

/-- A bus event of a choice among those whose bus events are `DATA_RX.CHAR` of `chars` is one. -/
theorem char_of_mem_events {xs : List Input} {chars : List Byte} (h : xs.filterMap busEventOf = chars.map .dataRxChar) {x : Input}
    {i : Instr} (hx : x ∈ xs) (hi : busEventOf x = some i) : ∃ d, i = .dataRxChar d := by
  have hmem : i ∈ chars.map Instr.dataRxChar := h ▸ List.mem_filterMap.mpr ⟨x, hx, hi⟩
  obtain ⟨d, -, rfl⟩ := List.mem_map.mp hmem
  exact ⟨d, rfl⟩

/-- The bytes received from choices whose bus events are `DATA_RX.CHAR` of `chars`. -/
theorem bytesReceived_of_chars {xs : List Input} {chars : List Byte} (h : xs.filterMap busEventOf = chars.map .dataRxChar) :
    bytesReceived xs = chars := by
  have hchar : charOf ∘ Instr.dataRxChar = some := rfl
  rw [bytesReceived, h, List.filterMap_map, hchar, List.filterMap_some]

/-- The text of a write under way by the number of its bytes: the first 50 of them stand in the first cells, the other cells are the old ones. -/
theorem WriteUnderWay.text {s u : State} {chars : List Byte} (h : WriteUnderWay s chars u) :
    (∀ i, i < min chars.length 50 → u.cell? i = chars[i]?) ∧ (∀ i, min chars.length 50 ≤ i → u.cell? i = s.cell? i) :=
  h.writeIndex_eq ▸ ⟨h.written, h.unwritten⟩

/-- A write that has received `SLA_W` and the bytes `chars`, with tick steps in between and before, is under way over the buffer of `s`. -/
theorem writeUnderWay_of_interleaved {s v : State} {ys : List Input} {chars : List Byte} (hwf : Memory.wf s.cfg.greeting s.mem = true)
    (hevents : ys.filterMap busEventOf = .slaW :: chars.map .dataRxChar) (hreset : ∀ x ∈ ys, isResetInput x = false)
    (h : deliverAll ys s = .next v) : ∃ u, SameBuffer s u ∧ WriteUnderWay u chars v := by
  obtain ⟨before, x, inside, rfl, hbefore, hx, hinside⟩ := List.filterMap_eq_cons_iff.mp hevents
  obtain ⟨hresetBefore, hresetRest⟩ := List.forall_mem_append.mp hreset
  obtain ⟨-, hresetInside⟩ := List.forall_mem_cons.mp hresetRest
  rw [deliverAll_append] at h
  obtain ⟨u, hu, hrest⟩ := andThen_eq_next h
  obtain ⟨w, hw, hlast⟩ := andThen_eq_next hrest
  have hbuf : SameBuffer s u := deliverAll_sameBuffer hu hbefore hresetBefore
  have ⟨hcfg, hmem, _⟩ := hbuf
  cases ((deliver_of_bus hx u).1.trans (exec_slaW u)).symm.trans hw
  have hopen : inside.all keepsWriteOpen = true := List.all_eq_true.mpr fun y hy =>
    keepsWriteOpen_of_char (fun i hi => char_of_mem_events hinside hy hi) (hresetInside y hy)
  have hend := (writeUnderWay_slaW (s := u) (by rwa [hcfg, hmem])).deliverAll_next hopen hlast
  rw [bytesReceived_of_chars hinside] at hend
  exact ⟨u, hbuf, hend⟩

/-- Settles O29: the write is under way when the terminator comes, which commits it. -/
theorem terminatedWriteUnderAnyInterleaving : Obligations.TerminatedWriteUnderAnyInterleaving := by
  unfold Obligations.TerminatedWriteUnderAnyInterleaving
  intro s t ys ev chars d hwf hevents hreset hterm h
  rw [deliverAll_append] at h
  obtain ⟨v, hv, hlast⟩ := andThen_eq_next h
  have hreset' : ∀ x ∈ ys, isResetInput x = false := by simpa using hreset
  obtain ⟨u, ⟨hcfg, hmem, hepoch⟩, hway⟩ := writeUnderWay_of_interleaved hwf hevents hreset' hv
  have hcommit : deliver (.event ev) v = .next v.commitLength.closeRx := by
    rw [deliver_event, hterm, exec_dataRxTerm_of_accepting d hway.accepting]
  cases (deliverAll_cons_next hcommit).symm.trans hlast
  obtain ⟨hwritten, hunwritten⟩ := hway.text
  exact ⟨hwritten, hway.writeIndex_eq, hway.writeIndex_eq, rfl, rfl,
    fun i hi => (hunwritten i hi).trans (State.cell?_congr hcfg hmem hepoch i)⟩

/-! A write with nothing between. -/

/-- What a write that `s` began, with no other step inside it, leaves as it was: the display, the tick operations in flight, the parameters and the
read registers; and the offset is the 0 of its `SLA_W`. -/
structure UndisturbedWrite (s u : State) : Prop where
  display : SameDisplay s u
  flight : SameFlight s u
  cfg_eq : u.cfg = s.cfg
  readIndex_eq : u.readIndex = s.readIndex
  txData_eq : u.txData = s.txData
  windowOffset_eq : u.windowOffset = 0

theorem undisturbedWrite_slaW (s : State) :
    UndisturbedWrite s { (s.enter .receivingWrite).openRx with writeIndex := 0, windowOffset := 0 } :=
  ⟨⟨rfl, rfl, rfl, rfl⟩, ⟨rfl, rfl⟩, rfl, rfl, rfl, rfl⟩

theorem UndisturbedWrite.stored {s u : State} (h : UndisturbedWrite s u) (d : Byte) :
    UndisturbedWrite s { u.storeCell u.writeIndex d with writeIndex := u.writeIndex + 1 } := { h with }

theorem UndisturbedWrite.committed {s u : State} (h : UndisturbedWrite s u) : UndisturbedWrite s u.commitLength.closeRx :=
  { h with windowOffset_eq := rfl }

theorem deliver_sendByte_char {b : Byte} (h : 0x20 ≤ b.toNat) (s : State) : deliver (sendByte b) s = exec (.dataRxChar b) s := by
  rw [sendByte, deliver_event, decode_evWord_bus, decodeBus_char h]

theorem deliver_sendByte_term {d : Byte} (h : d.toNat < 0x20) (s : State) : deliver (sendByte d) s = exec (.dataRxTerm d) s := by
  rw [sendByte, deliver_event, decode_evWord_bus, decodeBus_term h]

theorem deliver_sendEvent {i : Instr} (h : i.wf = true) (s : State) : deliver (sendEvent i) s = exec i s := by
  rw [sendEvent, deliver_event, decode_encode h]

/-- One more printable byte of a write, stored or dropped. -/
theorem deliver_sendByte_underWay {s u : State} {chars : List Byte} {b : Byte} (hb : 0x20 ≤ b.toNat) (hway : WriteUnderWay s chars u)
    (hquiet : UndisturbedWrite s u) :
    ∃ t, deliver (sendByte b) u = .next t ∧ WriteUnderWay s (chars ++ [b]) t ∧ UndisturbedWrite s t := by
  rw [deliver_sendByte_char hb]
  obtain hroom | hfull := Nat.lt_or_ge u.writeIndex 50
  · exact ⟨_, exec_dataRxChar_of_room b ⟨hway.accepting, hroom⟩, hway.stored hroom b, hquiet.stored b⟩
  · exact ⟨u, exec_dataRxChar_of_not b fun h => absurd h.2 (Nat.not_lt.mpr hfull), hway.dropped hfull b, hquiet⟩

/-- The printable bytes of a write, one after another. -/
theorem deliverAll_sendBytes_underWay {s u : State} {done chars : List Byte} (hchars : ∀ b ∈ chars, 0x20 ≤ b.toNat)
    (hway : WriteUnderWay s done u) (hquiet : UndisturbedWrite s u) :
    ∃ t, deliverAll (chars.map sendByte) u = .next t ∧ WriteUnderWay s (done ++ chars) t ∧ UndisturbedWrite s t := by
  induction chars generalizing done u with
  | nil => exact ⟨u, rfl, by rwa [List.append_nil], hquiet⟩
  | cons b chars ih =>
    obtain ⟨hb, hrest⟩ := List.forall_mem_cons.mp hchars
    obtain ⟨v, hv, hway', hquiet'⟩ := deliver_sendByte_underWay hb hway hquiet
    obtain ⟨t, ht, hend⟩ := ih hrest hway' hquiet'
    rw [List.append_assoc] at hend
    exact ⟨t, (deliverAll_cons_next hv).trans ht, hend⟩

/-- `SLA_W` and the printable bytes of a write. -/
theorem deliverAll_opened_underWay {s : State} {chars : List Byte} (hwf : Memory.wf s.cfg.greeting s.mem = true)
    (hchars : ∀ b ∈ chars, 0x20 ≤ b.toNat) :
    ∃ t, deliverAll (sendEvent .slaW :: chars.map sendByte) s = .next t ∧ WriteUnderWay s chars t ∧ UndisturbedWrite s t := by
  obtain ⟨t, ht, hend⟩ := deliverAll_sendBytes_underWay hchars (writeUnderWay_slaW hwf) (undisturbedWrite_slaW s)
  exact ⟨t, (deliverAll_cons_next ((deliver_sendEvent rfl s).trans (exec_slaW s))).trans ht, hend⟩

/-- Settles O30: the write completes up to its terminator, which commits it and disturbs nothing else. -/
theorem terminatedWriteCompletes : Obligations.TerminatedWriteCompletes := by
  unfold Obligations.TerminatedWriteCompletes
  intro s chars d hwf hchars hd
  obtain ⟨u, hu, hway, hquiet⟩ := deliverAll_opened_underWay hwf hchars
  have hcommit := (deliver_sendByte_term hd u).trans (exec_dataRxTerm_of_accepting d hway.accepting)
  obtain ⟨hwritten, hunwritten⟩ := hway.text
  exact ⟨_, (deliverAll_append_next hu).trans (deliverAll_cons_next hcommit), hwritten, hway.writeIndex_eq, hway.writeIndex_eq, rfl, rfl,
    hunwritten, hquiet.display, hquiet.flight, hquiet.readIndex_eq, hquiet.txData_eq⟩

/-- Settles O31: the write completes up to its `STOP_RSTART`, which commits it or leaves `length` and the offset 0. -/
theorem unterminatedWriteResult : Obligations.UnterminatedWriteResult := by
  unfold Obligations.UnterminatedWriteResult
  intro s chars hwf hchars
  obtain ⟨u, hu, hway, hquiet⟩ := deliverAll_opened_underWay hwf hchars
  obtain ⟨hwritten, hunwritten⟩ := hway.text
  have hstop := deliver_sendEvent (i := .stopRstart) rfl u
  rw [← hquiet.cfg_eq]
  by_cases hcommits : u.cfg.stopCommitsLength = true
  · have hcommit := hstop.trans (exec_stopRstart_of_commit ⟨hcommits, hway.accepting⟩)
    refine ⟨_, (deliverAll_append_next hu).trans (deliverAll_cons_next hcommit), hwritten, hunwritten, hway.writeIndex_eq, rfl, rfl, ?_⟩
    rw [if_pos hcommits]
    exact hway.writeIndex_eq
  · have hkeep := hstop.trans (exec_stopRstart_of_not fun h => hcommits h.1)
    refine ⟨_, (deliverAll_append_next hu).trans (deliverAll_cons_next hkeep), hwritten, hunwritten, hway.writeIndex_eq, rfl,
      hquiet.windowOffset_eq, ?_⟩
    rw [if_neg hcommits]
    exact hway.length_eq

end Sys2Proof.Machine
end

section
/-! PROOF. The read transaction: the state that each acknowledged byte leaves, in closed form (40_bus_slave.md R104 to R106, R115). -/

namespace Sys2Proof.Machine

/-- Byte `k` of a read that `SLA_R` starts in `s`: the cell's below 50, else the next free value that the read has not used (20_memory.md R53). -/
def streamByte (s : State) (k : Nat) : Byte :=
  if readStartIndex s + k < 50 then s.cell (readStartIndex s + k)
  else Config.freeByte (s.draws + (readStartIndex s + k - max (readStartIndex s) 50))

/-- The state after `SLA_R` in `s` and `k` acknowledged bytes; the read has drawn one free value for each byte past cell 49. -/
def State.streaming (s : State) (k : Nat) : State :=
  { s with
    proto := .transmittingRead
    readIndex := readStartIndex s + k
    txData := streamByte s k
    draws := s.draws + (readStartIndex s + k + 1 - max (readStartIndex s) 50) }

/-- The state that fetches byte `k` of the read, with the byte before it, or an older one, still in `txData`. -/
def State.seeking (s : State) (k : Nat) (x : Byte) : State :=
  { s.streaming k with txData := x, draws := s.draws + (readStartIndex s + k - max (readStartIndex s) 50) }

/-- The transmit fetch gives the byte of the stream, and draws exactly past cell 49. -/
theorem fetchTx_seeking (s : State) (k : Nat) (x : Byte) : (s.seeking k x).fetchTx (readStartIndex s + k) = s.streaming k := by
  have hcount : (if readStartIndex s + k < 50 then s.draws + (readStartIndex s + k - max (readStartIndex s) 50)
      else s.draws + (readStartIndex s + k - max (readStartIndex s) 50) + 1) =
      s.draws + (readStartIndex s + k + 1 - max (readStartIndex s) 50) := by
    split_ifs <;> omega
  exact congrArg (fun n => { s.streaming k with draws := n }) hcount

theorem exec_slaR_streaming (s : State) : exec .slaR s = .next (s.streaming 0) := by
  have hnone : readStartIndex s + 0 - max (readStartIndex s) 50 = 0 := by omega
  have hseek : { s.enter .transmittingRead with readIndex := readStartIndex s } = s.seeking 0 s.txData := by
    rw [State.seeking, hnone]
    rfl
  rw [exec_slaR, hseek]
  exact congrArg Host.Outcome.next (fetchTx_seeking s 0 s.txData)

theorem exec_dataTxAck_streaming (s : State) (k : Nat) : exec .dataTxAck (s.streaming k) = .next (s.streaming (k + 1)) :=
  (exec_dataTxAck_of_read rfl).trans (congrArg Host.Outcome.next (fetchTx_seeking s (k + 1) (streamByte s k)))

theorem exec_dataTxNack_streaming (s : State) (k : Nat) : exec .dataTxNack (s.streaming k) = .next ((s.streaming k).enter .idle) :=
  exec_dataTxNack_of_read rfl

/-- Further acknowledged bytes. -/
theorem deliverAll_acks (s : State) (j k : Nat) :
    deliverAll (List.replicate k (sendEvent .dataTxAck)) (s.streaming j) = .next (s.streaming (j + k)) := by
  induction k generalizing j with
  | zero => rfl
  | succ k ih =>
    rw [List.replicate_succ, deliverAll_cons_next ((deliver_sendEvent rfl _).trans (exec_dataTxAck_streaming s j)), ih]
    congr 2
    omega

/-- Settles O32, from the closed form of the read's state. -/
theorem readStreamBytes : Obligations.ReadStreamBytes := by
  unfold Obligations.ReadStreamBytes
  intro s k
  have hrun : deliverAll (sendEvent .slaR :: List.replicate k (sendEvent .dataTxAck)) s = .next (s.streaming k) := by
    rw [deliverAll_cons_next ((deliver_sendEvent rfl s).trans (exec_slaR_streaming s)), deliverAll_acks, Nat.zero_add]
  refine ⟨_, hrun, rfl, fun hlt => ?_, fun hge => ?_, rfl, exec_dataTxNack_streaming s k, fun _ => rfl, rfl, rfl, rfl, rfl,
    ⟨rfl, rfl, rfl, rfl⟩, ⟨rfl, rfl⟩⟩
  · rw [State.cell?_of_lt s hlt]
    exact congrArg some (if_pos hlt).symm
  · refine (if_neg (Nat.not_lt.mpr hge)).trans (congrArg Config.freeByte ?_)
    have hge' : 50 ≤ readStartIndex s + k := hge
    show _ = s.draws + (readStartIndex s + k + 1 - max (readStartIndex s) 50) - 1
    omega

end Sys2Proof.Machine
end

section
/-! PROOF. The bus front end: its events are sessions, `txData` stays inside until an `SLA_R` has written it, and a read shows the master its bytes
(40_bus_slave.md R115, R121 to R123, 20_memory.md R69). -/

namespace Sys2Proof.Machine

/-! Sessions. -/

/-- Where the grammar of 40_bus_slave.md R123 stands in a phase of the front end. -/
def sessionPhaseOf : FrontPhase → SessionPhase
  | .unaddressed => .between
  | .addressing => .between
  | .receiving => .writing
  | .transmitting => .reading

/-- A data byte of a write is an event that the grammar has there, whichever of the two it is. -/
theorem sessionNext_dataRx (b : Byte) : sessionNext .writing (decode (evWord 0b00#2 0x80#8 b)) = some .writing := by
  rw [decode_evWord_bus]
  obtain hterm | hchar := Nat.lt_or_ge b.toNat 0x20
  · rw [decodeBus_term hterm]; rfl
  · rw [decodeBus_char hchar]; rfl

/-- A wire condition that delivers nothing keeps the place in the grammar. -/
theorem sessionPhaseOf_frontNext_of_none {c : Config} {p : FrontPhase} {w : Wire} (hread : p = .transmitting → ∃ acked, w = .reply acked)
    (h : frontEvent c p w = none) : sessionPhaseOf (frontNext c p w) = sessionPhaseOf p := by
  cases p with
  | unaddressed => cases w <;> rfl
  | addressing =>
    cases w with
    | byte b =>
      have hno : ¬addressMatch c b = true := fun hmatch => by simp [frontEvent, hmatch] at h
      rw [frontNext, if_neg hno]
      rfl
    | start | stop | reply => rfl
  | receiving =>
    cases w with
    | reply => rfl
    | byte | start | stop => cases h
  | transmitting =>
    obtain ⟨acked, rfl⟩ := hread rfl
    cases acked <;> cases h

/-- A wire condition that delivers an event moves the grammar as that event does. -/
theorem sessionNext_of_frontEvent {c : Config} {p : FrontPhase} {w : Wire} {ev : EventWord} (h : frontEvent c p w = some ev) :
    sessionNext (sessionPhaseOf p) (decode ev) = some (sessionPhaseOf (frontNext c p w)) := by
  cases p with
  | unaddressed => cases w <;> cases h
  | addressing =>
    cases w with
    | byte b =>
      simp only [frontEvent] at h
      split_ifs at h with hmatch hreads
      all_goals
        cases h
        simp only [frontNext, hmatch, hreads, if_true]
        rfl
    | start | stop | reply => cases h
  | receiving =>
    cases w with
    | byte b => cases h; exact sessionNext_dataRx b
    | start | stop => cases h; rfl
    | reply => cases h
  | transmitting =>
    cases w with
    | reply acked => cases acked <;> cases h <;> rfl
    | start | stop | byte => cases h

theorem masterEndsReads_cons {c : Config} {p : FrontPhase} {w : Wire} {ws : List Wire} (h : masterEndsReads c p (w :: ws) = true) :
    (p = .transmitting → ∃ acked, w = .reply acked) ∧ masterEndsReads c (frontNext c p w) ws = true := by
  obtain ⟨hhead, hrest⟩ := Bool.and_eq_true_iff.mp h
  refine ⟨?_, hrest⟩
  rintro rfl
  cases w with
  | reply acked => exact ⟨acked, rfl⟩
  | start | stop | byte => cases hhead

/-- From every phase, the events delivered go on a session. -/
theorem sessionGoesOn_frontEvents {c : Config} {p : FrontPhase} {ws : List Wire} (h : masterEndsReads c p ws = true) :
    sessionGoesOn (sessionPhaseOf p) ((frontEvents c p ws).map decode) = true := by
  induction ws generalizing p with
  | nil => rfl
  | cons w ws ih =>
    obtain ⟨hread, hrest⟩ := masterEndsReads_cons h
    cases hev : frontEvent c p w with
    | none =>
      have hsame := sessionPhaseOf_frontNext_of_none hread hev
      simp only [frontEvents, hev]
      rw [← hsame]
      exact ih hrest
    | some ev => simpa only [frontEvents, hev, List.map_cons, sessionGoesOn, sessionNext_of_frontEvent hev] using ih hrest

/-! What a run does with `txData`. -/

/-- The state with another byte in `txData`. -/
def State.withTx (s : State) (x : Byte) : State := { s with txData := x }

/-- Two runs of one operation, from a state to `o` and with `x` in its `txData` to `o'`: the byte has been overwritten, or stays and has made no
difference. -/
def TxAside (x : Byte) (o o' : Host.Outcome State Fault Refusal) : Prop := o' = o ∨ mapNext (State.withTx · x) o = o'

/-- An operation that writes `txData` overwrites it, and no operation reads it. -/
theorem exec_withTx (i : Instr) (s : State) (x : Byte) : TxAside x (exec i s) (exec i (s.withTx x)) := by
  cases i with
  | slaW => exact .inr rfl
  | dataRxTerm d => exact .inr (congrArg Host.Outcome.next (apply_ite (State.withTx · x) _ _ _))
  | dataRxChar d => exact .inr (congrArg Host.Outcome.next (apply_ite (State.withTx · x) _ _ _))
  | stopRstart =>
    exact .inr (congrArg (fun t : State => Host.Outcome.next (t.enter .idle)) (apply_ite (State.withTx · x) _ _ _))
  | slaR => exact .inl rfl
  | dataTxAck =>
    by_cases hread : s.proto = .transmittingRead
    · exact .inl ((exec_dataTxAck_of_read (s := s.withTx x) hread).trans (exec_dataTxAck_of_read hread).symm)
    · rw [exec_dataTxAck_of_not hread, exec_dataTxAck_of_not (s := s.withTx x) hread]
      exact .inr rfl
  | dataTxNack => exact .inr (congrArg Host.Outcome.next (apply_ite (State.withTx · x) _ _ _))
  | busOther cc => exact .inr rfl
  | tickRefresh => exact .inr (apply_ite (mapNext (State.withTx · x)) _ _ _)
  | tickScroll => exact .inr (apply_ite (mapNext (State.withTx · x)) _ _ _)
  | reset => exact .inl rfl

theorem muxStep_withTx (s : State) (x : Byte) : muxStep (s.withTx x) = mapNext (State.withTx · x) (muxStep s) := by
  cases hm : s.mux with
  | idle => rw [muxStep_of_idle hm, muxStep_of_idle (s := s.withTx x) hm]; rfl
  | m1 => rw [muxStep_of_m1 hm, muxStep_of_m1 (s := s.withTx x) hm]; rfl
  | m2 w => rw [muxStep_of_m2 hm, muxStep_of_m2 (s := s.withTx x) hm]; rfl
  | m3 w l =>
    have hfetch : visibleChar (s.withTx x) (w + (s.withTx x).pos.val) l = visibleChar s (w + s.pos.val) l :=
      visibleChar_congr rfl rfl rfl _ _
    rw [muxStep_of_m3 hm, muxStep_of_m3 (s := s.withTx x) hm, hfetch]
    cases visibleChar s (w + s.pos.val) l <;> rfl
  | m4 w l c => rw [muxStep_of_m4 hm, muxStep_of_m4 (s := s.withTx x) hm]; rfl

theorem scrollStep_withTx (s : State) (x : Byte) : scrollStep (s.withTx x) = mapNext (State.withTx · x) (scrollStep s) := by
  cases hsc : s.scroll with
  | idle => rw [scrollStep_of_idle hsc, scrollStep_of_idle (s := s.withTx x) hsc]; rfl
  | s1 l => rw [scrollStep_of_s1 hsc, scrollStep_of_s1 (s := s.withTx x) hsc]; rfl
  | s2 l w => rw [scrollStep_of_s2 hsc, scrollStep_of_s2 (s := s.withTx x) hsc]; rfl

theorem deliver_withTx (y : Input) (s : State) (x : Byte) : TxAside x (deliver y s) (deliver y (s.withTx x)) := by
  cases y with
  | event ev => exact exec_withTx (decode ev) s x
  | muxStep => exact .inr (muxStep_withTx s x).symm
  | scrollStep => exact .inr (scrollStep_withTx s x).symm

theorem frontDeliver_withTx (c : Config) (p : FrontPhase) (w : Wire) (s : State) (x : Byte) :
    TxAside x (frontDeliver c p w s) (frontDeliver c p w (s.withTx x)) := by
  unfold frontDeliver
  cases frontEvent c p w with
  | none => exact .inr rfl
  | some ev => exact deliver_withTx (.event ev) s x

/-! What the master sees. -/

/-- The attached block after a wire condition whose operation has led to `t`. -/
def Attached.afterWire (a : Attached) (w : Wire) (t : State) : Attached where
  phase := frontNext a.block.cfg a.phase w
  block := t
  driven := a.driven ++ frontDrives a.block.cfg a.phase w a.block t

/-- What the master has seen at the end of a run that goes on, from the next state of `o`, as `f` says. -/
def seenFrom (ms : List Moment) (f : State → Attached) (o : Host.Outcome State Fault Refusal) : Option (List Driven) :=
  match o with
  | .next t => masterSees (attachedRun ms (f t))
  | .fault _ => none
  | .refused _ => none

theorem masterSees_wire (w : Wire) (ms : List Moment) (a : Attached) :
    masterSees (attachedRun (.wire w :: ms) a) = seenFrom ms (a.afterWire w) (frontDeliver a.block.cfg a.phase w a.block) := by
  simp only [attachedRun, attachedMoment]
  cases frontDeliver a.block.cfg a.phase w a.block <;> rfl

theorem masterSees_block (y : Input) (ms : List Moment) (a : Attached) :
    masterSees (attachedRun (.block y :: ms) a) = seenFrom ms (fun t => { a with block := t }) (deliver y a.block) := by
  simp only [attachedRun, attachedMoment]
  cases deliver y a.block <;> rfl

/-- The rest of the run shows the master the same where the byte set aside makes no difference to it. -/
theorem seenFrom_of_txAside {x : Byte} {ms : List Moment} {f g : State → Attached} {o o' : Host.Outcome State Fault Refusal}
    (h : TxAside x o o') (hsame : ∀ t, masterSees (attachedRun ms (g t)) = masterSees (attachedRun ms (f t)))
    (haside : ∀ t, masterSees (attachedRun ms (g (t.withTx x))) = masterSees (attachedRun ms (f t))) :
    seenFrom ms g o' = seenFrom ms f o := by
  obtain rfl | rfl := h
  · cases o' with
    | next t => exact hsame t
    | fault r => rfl
    | refused r => rfl
  · cases o with
    | next t => exact haside t
    | fault r => rfl
    | refused r => rfl

/-- The front end begins to transmit, or shifts a byte out, only with the `SLA_R` that it delivers (40_bus_slave.md R121, R122). -/
theorem frontEvent_slaR_or_silent (c : Config) {p : FrontPhase} (w : Wire) (hp : p ≠ .transmitting) :
    frontEvent c p w = some (encode .slaR) ∨ frontNext c p w ≠ .transmitting ∧ frontShifts c p w = false := by
  cases p with
  | unaddressed => cases w <;> exact .inr ⟨nofun, rfl⟩
  | addressing =>
    cases w with
    | byte b =>
      by_cases hmatch : addressMatch c b = true
      · by_cases hreads : addressReads b = true
        · exact .inl (by simp [frontEvent, hmatch, hreads])
        · exact .inr (by simp [frontNext, frontShifts, hmatch, hreads])
      · exact .inr (by simp [frontNext, frontShifts, hmatch])
    | start | stop | reply => exact .inr ⟨nofun, rfl⟩
  | receiving => cases w <;> exact .inr ⟨nofun, rfl⟩
  | transmitting => exact absurd rfl hp

/-- Where nothing is shifted out, `txData` is not driven either. -/
theorem frontDrives_withTx {c : Config} {p : FrontPhase} {w : Wire} (h : frontShifts c p w = false) (s t : State) (x : Byte) :
    frontDrives c p w (s.withTx x) (t.withTx x) = frontDrives c p w s t := by
  rw [frontDrives, frontDrives, h]
  rfl

/-- Before an `SLA_R` the byte in `txData` makes no difference to what the master sees (20_memory.md R69). -/
theorem masterSees_withTx (ms : List Moment) {p : FrontPhase} (s : State) (x : Byte) (ds : List Driven) (hp : p ≠ .transmitting) :
    masterSees (attachedRun ms { phase := p, block := s.withTx x, driven := ds }) =
      masterSees (attachedRun ms { phase := p, block := s, driven := ds }) := by
  induction ms generalizing p s ds with
  | nil => rfl
  | cons m ms ih =>
    cases m with
    | block y =>
      rw [masterSees_block, masterSees_block]
      exact seenFrom_of_txAside (deliver_withTx y s x) (fun _ => rfl) fun t => ih t ds hp
    | wire w =>
      rw [masterSees_wire, masterSees_wire]
      obtain hslaR | ⟨hnext, hshifts⟩ := frontEvent_slaR_or_silent s.cfg w hp
      · have hover : frontDeliver s.cfg p w (s.withTx x) = frontDeliver s.cfg p w s := by
          simp only [frontDeliver, hslaR]
          rfl
        exact congrArg (seenFrom ms (Attached.afterWire { phase := p, block := s, driven := ds } w)) hover
      · refine seenFrom_of_txAside (frontDeliver_withTx s.cfg p w s x) (fun _ => rfl) fun t => ?_
        refine Eq.trans ?_ (ih t (ds ++ frontDrives s.cfg p w s t) hnext)
        rw [← frontDrives_withTx hshifts s t x]
        rfl

/-! A read on the bus. -/

theorem attachedMoment_wire {a : Attached} {w : Wire} {t : State} (h : frontDeliver a.block.cfg a.phase w a.block = .next t) :
    attachedMoment (.wire w) a = .next (a.afterWire w t) := by
  rw [attachedMoment, h]
  rfl

theorem addressMatch_of_slaveAddr {c : Config} {b : Byte} (hne : c.slaveAddr ≠ 0#7) (h : b.extractLsb' 1 7 = c.slaveAddr) :
    addressMatch c b = true := by
  simp [addressMatch, h, hne]

/-- The attached block in a read that `SLA_R` started in `s`, with `k` bytes acknowledged and the next one shifted out. -/
def readOnBus (s : State) (k : Nat) : Attached where
  phase := .transmitting
  block := s.streaming k
  driven := .ack s.ackEn :: (List.range (k + 1)).map fun j => .shifted (streamByte s j)

/-- The START and the address byte begin the read. -/
theorem attachedRun_address {s : State} {b : Byte} (hmatch : addressMatch s.cfg b = true) (hreads : addressReads b = true)
    (ms : List Moment) :
    attachedRun (.wire .start :: .wire (.byte b) :: ms) { phase := .unaddressed, block := s, driven := [] } =
      attachedRun ms (readOnBus s 0) := by
  have hdeliver : frontDeliver s.cfg .addressing (.byte b) s = .next (s.streaming 0) := by
    simp only [frontDeliver, frontEvent, hmatch, hreads, if_true]
    exact (deliver_sendEvent rfl s).trans (exec_slaR_streaming s)
  have hafter : Attached.afterWire { phase := .addressing, block := s, driven := [] } (.byte b) (s.streaming 0) = readOnBus s 0 := by
    simp only [Attached.afterWire, frontNext, frontDrives, frontAcks, frontShifts, hmatch, hreads, Bool.and_true, if_true]
    rfl
  rw [attachedRun_cons_next rfl, attachedRun_cons_next (attachedMoment_wire hdeliver)]
  exact congrArg (attachedRun ms) hafter

/-- A byte acknowledged: the next one is shifted out. -/
theorem attachedMoment_ack (s : State) (k : Nat) : attachedMoment (.wire (.reply true)) (readOnBus s k) = .next (readOnBus s (k + 1)) := by
  have hdeliver : frontDeliver s.cfg .transmitting (.reply true) (s.streaming k) = .next (s.streaming (k + 1)) :=
    (deliver_sendEvent rfl _).trans (exec_dataTxAck_streaming s k)
  have hdriven : (readOnBus s (k + 1)).driven = (readOnBus s k).driven ++ [.shifted (streamByte s (k + 1))] := by
    simp [readOnBus, List.range_succ (n := k + 1)]
  exact (attachedMoment_wire (a := readOnBus s k) hdeliver).trans
    (congrArg (fun ds => Host.Outcome.next { readOnBus s (k + 1) with driven := ds }) hdriven.symm)

theorem attachedRun_acks (s : State) (j k : Nat) (ms : List Moment) :
    attachedRun (List.replicate k (.wire (.reply true)) ++ ms) (readOnBus s j) = attachedRun ms (readOnBus s (j + k)) := by
  induction k generalizing j with
  | zero => rfl
  | succ k ih =>
    rw [List.replicate_succ, List.cons_append, attachedRun_cons_next (attachedMoment_ack s j), ih, Nat.add_right_comm, Nat.add_assoc]

/-- The last byte, not acknowledged, ends the read, and nothing more is driven. -/
theorem attachedMoment_nack (s : State) (k : Nat) :
    attachedMoment (.wire (.reply false)) (readOnBus s k) =
      .next { phase := .unaddressed, block := (s.streaming k).enter .idle, driven := (readOnBus s k).driven } := by
  have hdeliver : frontDeliver s.cfg .transmitting (.reply false) (s.streaming k) = .next ((s.streaming k).enter .idle) :=
    (deliver_sendEvent rfl _).trans (exec_dataTxNack_streaming s k)
  exact (attachedMoment_wire (a := readOnBus s k) hdeliver).trans
    (congrArg (fun ds => Host.Outcome.next (Attached.mk .unaddressed ((s.streaming k).enter .idle) ds))
      (List.append_nil _))

/-- A read of `k + 1` bytes, whole. -/
theorem attachedRun_read {s : State} {b : Byte} (hmatch : addressMatch s.cfg b = true) (hreads : addressReads b = true) (k : Nat) :
    attachedRun (readOnTheBus b k) { phase := .unaddressed, block := s, driven := [] } =
      .next { phase := .unaddressed, block := (s.streaming k).enter .idle, driven := (readOnBus s k).driven } := by
  rw [readOnTheBus, List.cons_append, List.cons_append, attachedRun_address hmatch hreads, attachedRun_acks, Nat.zero_add,
    attachedRun_cons_next (attachedMoment_nack s k), attachedRun_nil]

/-- Settles O59: the grammar by its phases, `txData` by two runs side by side, and the read by the closed form of its state. -/
theorem frontEndDeliversSessions : Obligations.FrontEndDeliversSessions := by
  unfold Obligations.FrontEndDeliversSessions
  refine ⟨fun c ws h => sessionGoesOn_frontEvents h, fun ms p s x ds hp => masterSees_withTx ms s x ds hp, ?_⟩
  intro s b k hs hne haddr hreads
  refine ⟨_, attachedRun_read (addressMatch_of_slaveAddr hne haddr) hreads k, rfl, rfl, ?_, ?_, fun j hj => ?_⟩
  · simp [readOnBus]
  · simp [readOnBus, hs.ack_on]
  · simp [readOnBus, Nat.lt_succ_of_le hj, streamByte]

end Sys2Proof.Machine
end

section
/-! PROOF. The segment encoder: which bytes an admitted table leaves blank, that a table holds every admitted encoder, and the default glyphs
(41_digit_mux.md R146 to R148). -/

namespace Sys2Proof.Machine

/-- The encoder is blank on a byte that the table gives no pattern but the blank one. -/
theorem segOf_eq_blank {c : Config} {b : Byte} (h : ∀ e ∈ c.segTable, e.1 = b → e.2 = blankPattern) : segOf c b = blankPattern := by
  unfold segOf
  cases hlookup : c.segTable.lookup b with
  | none => rfl
  | some p =>
    obtain ⟨before, after, htable, -⟩ := List.lookup_eq_some_iff.mp hlookup
    exact h (b, p) (by simp [htable]) rfl

/-- A table of supported bytes leaves every other byte blank (41_digit_mux.md R147 (b)). -/
theorem segOf_of_unsupported {c : Config} (h : ∀ e ∈ c.segTable, supportedChar e.1 = true) {b : Byte} (hb : supportedChar b = false) :
    segOf c b = blankPattern :=
  segOf_eq_blank fun e he heq => absurd (h e he) (by simp [heq, hb])

/-- Settles O38: the space is a constraint of its own, and a table of supported bytes gives no other byte a pattern. -/
theorem unsupportedCharactersAreBlank : Obligations.UnsupportedCharactersAreBlank := by
  unfold Obligations.UnsupportedCharactersAreBlank
  intro c hc
  obtain ⟨-, -, htable, hspace⟩ := configWf_iff.mp hc
  exact ⟨hspace, fun _ => segOf_of_unsupported htable⟩

/-- The bytes of the supported set (41_digit_mux.md R147 (d)). -/
def supportedBytes : List Byte := ((List.finRange (2 ^ 8)).map BitVec.ofFin).filter supportedChar

theorem mem_supportedBytes {b : Byte} : b ∈ supportedBytes ↔ supportedChar b = true := by
  have hbyte : b ∈ (List.finRange (2 ^ 8)).map BitVec.ofFin := List.mem_map.mpr ⟨b.toFin, List.mem_finRange _, rfl⟩
  rw [supportedBytes, List.mem_filter, and_iff_right hbyte]

/-- An encoder written out as a table over the supported set. -/
def encoderTable (f : Byte → Pattern) : List (Byte × Pattern) := supportedBytes.map fun b => (b, f b)

theorem supportedChar_of_mem_encoderTable {f : Byte → Pattern} : ∀ e ∈ encoderTable f, supportedChar e.1 = true := by
  intro e he
  obtain ⟨b, hb, rfl⟩ := List.mem_map.mp he
  exact mem_supportedBytes.mp hb

/-- The written-out table is the encoder it was written from, if that one is blank on unsupported bytes (41_digit_mux.md R146). -/
theorem segOf_encoderTable {c : Config} {f : Byte → Pattern} (hf : ∀ b, supportedChar b = false → f b = blankPattern) (b : Byte) :
    segOf { c with segTable := encoderTable f } b = f b := by
  cases hb : supportedChar b with
  | true =>
    have hlookup : (encoderTable f).lookup b = some (f b) := List.lookup_graph f (mem_supportedBytes.mpr hb)
    rw [segOf, hlookup, Option.getD_some]
  | false => rw [segOf_of_unsupported supportedChar_of_mem_encoderTable hb, hf b hb]

/-- Settles O39: the table is the encoder written out over the supported set. -/
theorem everyAdmittedEncoderIsATable : Obligations.EveryAdmittedEncoderIsATable := by
  unfold Obligations.EveryAdmittedEncoderIsATable
  intro c f hc hblank hspace
  obtain ⟨hlength, hgreeting, -, -⟩ := configWf_iff.mp hc
  have hseg := segOf_encoderTable (c := c) hblank
  exact ⟨encoderTable f,
    configWf_iff.mpr ⟨hlength, hgreeting, supportedChar_of_mem_encoderTable, (hseg blankChar).trans hspace⟩, hseg⟩

/-- The default table's entries are the digits, the underscore, the equals sign, and the blank of the space (41_digit_mux.md R148). -/
theorem cases_of_mem_defaultSegTable : ∀ e ∈ defaultSegTable,
    (0x30 ≤ e.1.toNat ∧ e.1.toNat ≤ 0x39) ∨ e.1 = 0x5F#8 ∨ e.1 = 0x3D#8 ∨ e.2 = blankPattern := by
  simp [defaultSegTable, blankPattern]

/-- Settles O40: thirteen entries of the table looked up, and no entry but the space's for any other byte. -/
theorem defaultGlyphs : Obligations.DefaultGlyphs := by
  unfold Obligations.DefaultGlyphs
  refine ⟨rfl, rfl, rfl, rfl, rfl, rfl, rfl, rfl, rfl, rfl, rfl, rfl, rfl, fun b hdigit hunderscore hequals => ?_⟩
  refine segOf_eq_blank fun e he heq => ?_
  subst heq
  obtain hdigit' | hunderscore' | hequals' | hblank := cases_of_mem_defaultSegTable e he
  · exact absurd hdigit' hdigit
  · exact absurd hunderscore' hunderscore
  · exact absurd hequals' hequals
  · exact hblank

end Sys2Proof.Machine
end

section
/-! PROOF. The refresh operation and the digit lines: the five steps of a tick, whole ticks one after another, that exactly one digit is active
at every step, and the constant outputs (41_digit_mux.md R141 to R144, R149). -/

namespace Sys2Proof.Machine

/-- Step M1 of a tick that finds no refresh operation in flight (41_digit_mux.md R141). -/
theorem exec_tickRefresh_of_idle {s : State} (h : s.mux = .idle) :
    exec .tickRefresh s = .next { s with pos := nextPos s.pos, digitSel := onehot4 (nextPos s.pos), mux := .m1 } :=
  execTickRefresh_next.mpr ⟨h, rfl⟩

/-- Settles O34, from the equation of each step. -/
theorem refreshOperationStepByStep : Obligations.RefreshOperationStepByStep := by
  unfold Obligations.RefreshOperationStepByStep
  refine ⟨decode_word_tickRefresh, fun s hidle => ?_, fun _ => muxStep_of_m1, fun _ _ => muxStep_of_m2, fun _ _ _ => muxStep_fetch,
    fun _ _ _ _ => muxStep_of_m4⟩
  exact ⟨_, exec_tickRefresh_of_idle hidle, rfl, rfl, rfl, rfl, rfl, fun _ => rfl, rfl, rfl, ⟨rfl, rfl, rfl, rfl, rfl, rfl⟩, rfl,
    ⟨rfl, rfl⟩, rfl⟩

/-- The character that the window shows at position `p`: the cell's, or blank at or beyond `length` (41_digit_mux.md R144). -/
def State.shownChar (s : State) (p : Fin 4) : Byte :=
  if s.windowOffset + p.val < s.length then s.cell (s.windowOffset + p.val) else blankChar

/-- The state after one whole refresh tick: the next position is lit, with the character that the window shows there. -/
def State.refreshed (s : State) : State :=
  { s with
    pos := nextPos s.pos
    digitSel := onehot4 (nextPos s.pos)
    seg := segOf s.cfg (s.shownChar (nextPos s.pos))
    mux := .idle }

theorem deliverAll_muxStep {s t : State} (h : muxStep s = .next t) (xs : List Input) :
    deliverAll (.muxStep :: xs) s = deliverAll xs t := deliverAll_cons_next h

/-- A whole refresh tick, M1 to M5 with nothing between (41_digit_mux.md R141). -/
theorem deliverAll_refreshTick {s : State} (hw : s.windowOffset ≤ 46) (hidle : s.mux = .idle) :
    deliverAll refreshTick s = .next s.refreshed := by
  have hfetch : s.windowOffset + (nextPos s.pos).val < 50 := by omega
  rw [refreshTick, deliverAll_cons_next ((deliver_sendEvent rfl s).trans (exec_tickRefresh_of_idle hidle)),
    deliverAll_muxStep (muxStep_of_m1 rfl), deliverAll_muxStep (muxStep_of_m2 rfl), deliverAll_muxStep (muxStep_fetch rfl hfetch),
    deliverAll_muxStep (muxStep_of_m4 rfl), deliverAll_nil]
  rfl

/-- The first of several whole refresh ticks (30_encoding.md R91). -/
theorem deliverAll_refreshTicks_succ {s : State} (hw : s.windowOffset ≤ 46) (hidle : s.mux = .idle) (k : Nat) :
    deliverAll (ticks refreshTick (k + 1)) s = deliverAll (ticks refreshTick k) s.refreshed :=
  deliverAll_append_next (deliverAll_refreshTick hw hidle)

/-- Settles O36, by induction on the number of ticks: each leaves the window, the cells and an idle `MUX` to the next. -/
theorem refreshCycleIsRoundRobin : Obligations.RefreshCycleIsRoundRobin := by
  unfold Obligations.RefreshCycleIsRoundRobin
  intro s k hs hidle
  replace hs : s.windowOffset ≤ 46 := hs.windowOffset_le
  induction k generalizing s with
  | zero =>
    exact ⟨s.refreshed, deliverAll_refreshTicks_succ hs hidle 0, rfl, rfl, rfl, rfl, fun _ => rfl, rfl, rfl,
      ⟨rfl, rfl, rfl, rfl, rfl, rfl⟩, rfl⟩
  | succ k ih =>
    obtain ⟨t, ht, hidle', hpos, hrest⟩ := ih s.refreshed rfl hs
    have hmod : t.pos.val = (s.pos.val + (k + 1) + 1) % 4 := by
      have hnext : s.refreshed.pos.val = (s.pos.val + 1) % 4 := rfl
      omega
    exact ⟨t, (deliverAll_refreshTicks_succ hs hidle (k + 1)).trans ht, hidle', hmod, hrest⟩

/-- The one bit of `onehot4 q` that is 1 is bit `q` (00_scope.md R9). -/
theorem getLsbD_onehot4 : ∀ q p : Fin 4, (onehot4 q).getLsbD p.val = decide (p = q) := by decide

/-- A delivered choice writes `pos` and `digitSel` together, or neither of them (41_digit_mux.md R143). -/
theorem deliver_digit_cases {x : Input} {s t : State} (h : deliver x s = .next t) :
    (t.pos = s.pos ∧ t.digitSel = s.digitSel) ∨ t.digitSel = onehot4 t.pos := by
  obtain ⟨i, -, hbus⟩ | ⟨-, (htick | hstep) | hscroll | ⟨-, rfl⟩⟩ := deliver_cases h
  · obtain ⟨⟨hpos, hsel, -⟩, -⟩ := hbus.frame
    exact .inl ⟨hpos, hsel⟩
  · obtain ⟨-, rfl⟩ := execTickRefresh_next.mp htick
    exact .inr rfl
  · obtain ⟨-, rfl⟩ | ⟨-, rfl⟩ | ⟨w, -, rfl⟩ | ⟨w, l, c, -, -, rfl⟩ | ⟨w, l, c, -, rfl⟩ := muxStep_cases hstep
    all_goals exact .inl ⟨rfl, rfl⟩
  · obtain ⟨w, c, rfl⟩ := hscroll.frame
    exact .inl ⟨rfl, rfl⟩
  · exact .inr rfl

/-- Settles O37: a reset lights the digit that `pos` names, and a step moves both registers together. -/
theorem exactlyOneDigitIsActive : Obligations.ExactlyOneDigitIsActive := by
  unfold Obligations.ExactlyOneDigitIsActive
  refine ⟨fun c p => getLsbD_onehot4 resetPos p, fun s t hs h p => ?_⟩
  obtain ⟨x, xs, n, hx, -⟩ := step_delivers h
  obtain ⟨hpos, hsel⟩ | hlit := deliver_digit_cases hx
  · rw [hpos, hsel]
    exact hs p
  · rw [hlit]
    exact getLsbD_onehot4 t.pos p

/-- Settles O41, from the two constants that the invariant keeps. -/
theorem constantOutputs : Obligations.ConstantOutputs := by
  unfold Obligations.ConstantOutputs
  intro s hs
  exact ⟨by rw [outputsOf, hs.dp_dark], hs.ack_on⟩

end Sys2Proof.Machine
end

section
/-! PROOF. The scroll operation: the policy case by case, the three steps of a tick, and whole ticks one after another, which iterate the policy
on the offset (42_scroll.md R161 to R164). -/

namespace Sys2Proof.Machine

theorem scrollNext_of_short (w : Nat) {l : Nat} (h : l ≤ 4) : scrollNext w l = 0 := if_pos h

theorem scrollNext_of_tail {w l : Nat} (h : l ≤ w + 1 + 3) : scrollNext w l = 0 := by
  rw [scrollNext, if_pos h, ite_self]

theorem scrollNext_of_more {w l : Nat} (h : w + 1 + 3 < l) : scrollNext w l = w + 1 := by
  rw [scrollNext, if_neg (by omega), if_neg h.not_ge]

/-- Settles O44, from the three cases of the policy. -/
theorem scrollPolicy : Obligations.ScrollPolicy := by
  unfold Obligations.ScrollPolicy
  exact fun w l => ⟨scrollNext_of_short w, fun _ => scrollNext_of_tail, fun _ => scrollNext_of_more⟩

/-- Step S1 of a tick that finds no scroll operation in flight (42_scroll.md R161). -/
theorem exec_tickScroll_of_idle {s : State} (h : s.scroll = .idle) : exec .tickScroll s = .next { s with scroll := .s1 s.length } :=
  execTickScroll_next.mpr ⟨h, rfl⟩

/-- Settles O43, from the equation of each step. -/
theorem scrollOperationStepByStep : Obligations.ScrollOperationStepByStep := by
  unfold Obligations.ScrollOperationStepByStep
  refine ⟨decode_word_tickScroll, fun s hidle => ?_, fun _ _ => scrollStep_of_s1, fun _ _ _ => scrollStep_of_s2⟩
  exact ⟨_, exec_tickScroll_of_idle hidle, rfl, fun _ => rfl, rfl, rfl, ⟨rfl, rfl, rfl, rfl, rfl, rfl⟩, ⟨rfl, rfl, rfl, rfl⟩, rfl,
    ⟨rfl, rfl⟩, rfl⟩

/-- The state with the window at `w` and no scroll operation in flight. -/
def State.scrolledTo (s : State) (w : Nat) : State := { s with windowOffset := w, scroll := .idle }

theorem State.scrolledTo_self {s : State} (hidle : s.scroll = .idle) : s.scrolledTo s.windowOffset = s := by
  rw [State.scrolledTo, ← hidle]

/-- A whole scroll tick, S1 to S3 with nothing between (42_scroll.md R161). -/
theorem deliverAll_scrollTick {s : State} (hidle : s.scroll = .idle) :
    deliverAll scrollTick s = .next (s.scrolledTo (scrollNext s.windowOffset s.length)) := by
  rw [scrollTick, deliverAll_cons_next ((deliver_sendEvent rfl s).trans (exec_tickScroll_of_idle hidle)),
    deliverAll_cons_next (x := .scrollStep) (scrollStep_of_s1 rfl), deliverAll_cons_next (x := .scrollStep) (scrollStep_of_s2 rfl),
    deliverAll_nil]
  rfl

/-- Settles O45, from what a whole tick writes and that `ScrollNext` of the length itself is a right offset. -/
theorem untornScrollTickMendsTheWindow : Obligations.UntornScrollTickMendsTheWindow := by
  unfold Obligations.UntornScrollTickMendsTheWindow
  intro s hidle
  exact ⟨_, deliverAll_scrollTick hidle, rfl, windowOK_scrollNext s.windowOffset s.length, rfl, rfl, fun _ => rfl,
    ⟨rfl, rfl, rfl, rfl, rfl, rfl⟩, ⟨rfl, rfl, rfl, rfl⟩, rfl⟩

/-- Whole scroll ticks, one after another, iterate the policy on the offset and write nothing else (30_encoding.md R91). -/
theorem deliverAll_scrollTicks {s : State} (hidle : s.scroll = .idle) (k : Nat) :
    deliverAll (ticks scrollTick k) s = .next (s.scrolledTo ((scrollNext · s.length)^[k] s.windowOffset)) := by
  induction k generalizing s with
  | zero => exact congrArg _ (State.scrolledTo_self hidle).symm
  | succ k ih => exact (deliverAll_append_next (deliverAll_scrollTick hidle)).trans (ih rfl)

/-- Above four characters the policy counts modulo `n - 3`, the number of right offsets (42_scroll.md R164). -/
theorem scrollNext_mod {n : Nat} (hn : 4 < n) (k : Nat) : scrollNext (k % (n - 3)) n = (k + 1) % (n - 3) := by
  have hlt : k % (n - 3) < n - 3 := Nat.mod_lt k (by omega)
  rw [← Nat.mod_add_mod k (n - 3) 1]
  by_cases htail : n ≤ k % (n - 3) + 1 + 3
  · have hlast : k % (n - 3) + 1 = n - 3 := by omega
    rw [scrollNext_of_tail htail, hlast, Nat.mod_self]
  · rw [scrollNext_of_more (by omega)]
    exact (Nat.mod_eq_of_lt (by omega)).symm

theorem scrollNext_iterate_zero {n : Nat} (hn : 4 < n) (k : Nat) : (scrollNext · n)^[k] 0 = k % (n - 3) := by
  induction k with
  | zero => exact (Nat.zero_mod _).symm
  | succ k ih => rw [Function.iterate_succ_apply', ih, scrollNext_mod hn]

/-- Settles O46: the ticks iterate the policy, and from offset 0 the iterates count modulo `n - 3`. -/
theorem scrollCycleIsPeriodic : Obligations.ScrollCycleIsPeriodic := by
  unfold Obligations.ScrollCycleIsPeriodic
  rintro s n k hidle rfl hn hzero
  refine ⟨_, deliverAll_scrollTicks hidle k, ?_, rfl, rfl⟩
  show (scrollNext · s.length)^[k] s.windowOffset = k % (s.length - 3)
  rw [hzero, scrollNext_iterate_zero hn]

/-- Settles O47: the ticks iterate the policy, and the last of them writes 0 for a short text whatever offset it finds. -/
theorem shortTextDoesNotScroll : Obligations.ShortTextDoesNotScroll := by
  unfold Obligations.ShortTextDoesNotScroll
  intro s k hidle hshort
  refine ⟨_, deliverAll_scrollTicks hidle (k + 1), ?_, rfl⟩
  show (scrollNext · s.length)^[k + 1] s.windowOffset = 0
  rw [Function.iterate_succ_apply', scrollNext_of_short _ hshort]

end Sys2Proof.Machine
end

section
/-! PROOF. Where a step can stop: an enabled choice completes, a disabled step of an agent changes nothing, and only an overrunning tick is
refused; with nothing delivered and nothing in flight the block is still (20_memory.md R60, 60_exceptions.md R175, R181, R190). -/

namespace Sys2Proof.Machine

theorem exec_tickRefresh_of_inFlight {s : State} (h : s.mux ≠ .idle) : exec .tickRefresh s = .refused .refreshOverrun :=
  if_neg (mt isIdle_mux.mp h)

theorem exec_tickScroll_of_inFlight {s : State} (h : s.scroll ≠ .idle) : exec .tickScroll s = .refused .scrollOverrun :=
  if_neg (mt isIdle_scroll.mp h)

/-- Settles O35, from the guard of each tick's first step. -/
theorem overrunningTicksAreRefused : Obligations.OverrunningTicksAreRefused := by
  unfold Obligations.OverrunningTicksAreRefused
  exact fun _ => ⟨exec_tickRefresh_of_inFlight, exec_tickScroll_of_inFlight⟩

/-- With no tick operation in flight and nothing scheduled it is `SCROLL`'s turn, and an idle `SCROLL` changes nothing
(60_exceptions.md R175). -/
theorem undriven_of_idle {s : State} (hm : s.mux = .idle) (hsc : s.scroll = .idle) : undriven s = .next s := by
  obtain ⟨-, hu⟩ | ⟨hne, -⟩ | ⟨hne, -⟩ := undriven_cases s
  · exact hu.trans (scrollStep_of_idle hsc)
  · exact absurd hm hne
  · exact absurd hm hne

/-- Settles O8: a step on the empty schedule is undriven. -/
theorem quiescentBlockIsStill : Obligations.QuiescentBlockIsStill := by
  unfold Obligations.QuiescentBlockIsStill
  intro s hin hm hsc
  exact (step_nil hin).trans (undriven_of_idle hm hsc)

/-- An event is enabled unless it is a tick of an agent in flight (20_memory.md R60). -/
theorem enabled_event {ev : EventWord} {s : State} :
    enabled (.event ev) s ↔ (decode ev = .tickRefresh → s.mux = .idle) ∧ (decode ev = .tickScroll → s.scroll = .idle) := by
  cases hev : decode ev <;> simp [enabled, hev]

theorem exec_bus_completes {i : Instr} (hbus : agentOf i = .bus) (s : State) : ∃ t, exec i s = .next t := by
  obtain ⟨t, ht, -⟩ := exec_busMove hbus s
  exact ⟨t, ht⟩

/-- Every event completes but a tick of an agent in flight (60_exceptions.md R190). -/
theorem exec_completes {i : Instr} {s : State} (hm : i = .tickRefresh → s.mux = .idle) (hsc : i = .tickScroll → s.scroll = .idle) :
    ∃ t, exec i s = .next t := by
  cases i with
  | tickRefresh => exact ⟨_, exec_tickRefresh_of_idle (hm rfl)⟩
  | tickScroll => exact ⟨_, exec_tickScroll_of_idle (hsc rfl)⟩
  | reset => exact ⟨_, rfl⟩
  | _ => exact exec_bus_completes rfl s

/-- An enabled choice completes; the invariant keeps the display fetch of M4 below cell 50 (20_memory.md R60, R66 (f)). -/
theorem deliver_of_enabled {x : Input} {s : State} (hs : StateInv s) (h : enabled x s) : ∃ t, deliver x s = .next t := by
  cases x with
  | event ev =>
    obtain ⟨hm, hsc⟩ := enabled_event.mp h
    exact exec_completes hm hsc
  | muxStep =>
    obtain ⟨t, ht, -⟩ := muxStep_progress hs h
    exact ⟨t, ht⟩
  | scrollStep =>
    obtain ⟨t, ht, -⟩ := scrollStep_progress h
    exact ⟨t, ht⟩

/-- `o` is what a tick that overruns in `s` is answered with: the refusal that names the agent in flight (60_exceptions.md R181;
log entry 7). -/
def OverrunIn (s : State) (o : Host.Outcome State Fault Refusal) : Prop :=
  (o = .refused .refreshOverrun ∧ s.mux ≠ .idle) ∨ (o = .refused .scrollOverrun ∧ s.scroll ≠ .idle)

/-- A disabled choice is an idle agent's step, which changes nothing, or an overrunning tick, which is refused. -/
theorem deliver_of_disabled {x : Input} {s : State} (h : ¬enabled x s) : deliver x s = .next s ∨ OverrunIn s (deliver x s) := by
  cases x with
  | event ev =>
    rw [deliver_event]
    simp only [enabled_event, not_and_or, Classical.not_imp] at h
    obtain ⟨htick, hm⟩ | ⟨htick, hsc⟩ := h
    · rw [htick]
      exact .inr (.inl ⟨exec_tickRefresh_of_inFlight hm, hm⟩)
    · rw [htick]
      exact .inr (.inr ⟨exec_tickScroll_of_inFlight hsc, hsc⟩)
  | muxStep => exact .inl (muxStep_of_idle (not_not.mp h))
  | scrollStep => exact .inl (scrollStep_of_idle (not_not.mp h))

/-- A delivery completes or refuses an overrunning tick, enabled or not. -/
theorem deliver_completes_or_overruns {x : Input} {s : State} (hs : StateInv s) :
    (∃ t, deliver x s = .next t) ∨ OverrunIn s (deliver x s) := by
  by_cases henabled : enabled x s
  · exact .inl (deliver_of_enabled hs henabled)
  · exact (deliver_of_disabled henabled).imp_left fun hstill => ⟨s, hstill⟩

/-- Settles O50: a scheduled choice completes or is an overrunning tick, and it completes where it is enabled; with none scheduled the step
always completes. -/
theorem noStepFaults : Obligations.NoStepFaults := by
  unfold Obligations.NoStepFaults
  refine fun s hs => ⟨?_, fun x xs hin henabled => ?_⟩
  · cases hin : s.inputs with
    | nil =>
      obtain ⟨t, hu, -⟩ := undriven_progress hs
      exact .inl ⟨t, (step_nil hin).trans hu⟩
    | cons x xs =>
      have hs' : StateInv { s with inputs := xs } := { hs with }
      rw [step_scheduled hin]
      exact deliver_completes_or_overruns hs'
  · have hs' : StateInv { s with inputs := xs } := { hs with }
    have henabled' : enabled x { s with inputs := xs } := henabled
    rw [step_scheduled hin]
    exact deliver_of_enabled hs' henabled'

end Sys2Proof.Machine
end

section
/-! PROOF. Reset and the hazards: what a reset state is and shows, the state that a terminated write leaves whatever the buffer's form is, the read
that follows it, and the scroll operation that it tears (70_reset_and_hazards.md R212, R213, R222, R226). -/

namespace Sys2Proof.Machine

/-! Reset. -/

/-- Settles O12, from the invariant of a reset state, the offset 0 and that no scroll operation is in flight. -/
theorem resetStateMeetsTheInvariants : Obligations.ResetStateMeetsTheInvariants := by
  unfold Obligations.ResetStateMeetsTheInvariants
  exact fun c hc => ⟨stateInv_resetFrom hc 0 [], windowOK_zero _, scrollUntorn_of_idle (State.resetFrom_scroll c 0 [])⟩

/-- A cell of a reset state holds the greeting's byte where there is one, else a free value fixed at that reset (10_state.md R21). -/
theorem State.cell_resetFrom (c : Config) (n : Nat) (xs : List Input) (i : Nat) :
    (State.resetFrom c n xs).cell i = c.greeting[i]?.getD (Config.freeCell n i) := rfl

/-- Cells below `length` and blanks beyond it: a reset state shows the greeting followed by blanks (20_memory.md R54). -/
theorem cell_or_blank_resetFrom (c : Config) (n : Nat) (xs : List Input) (i : Nat) :
    (if i < c.greeting.length then (State.resetFrom c n xs).cell i else blankChar) = c.greeting.getD i blankChar := by
  rw [State.cell_resetFrom]
  split_ifs with hi
  · rw [List.getElem?_eq_getElem hi, Option.getD_some, List.getD_eq_getElem _ _ hi]
  · rw [List.getD_eq_default _ _ (Nat.not_lt.mp hi)]

/-- Settles O14: from position 3 the round robin lights position `k` with tick `k + 1`, and the window at offset 0 shows the greeting. -/
theorem greetingShownAfterReset : Obligations.GreetingShownAfterReset := by
  unfold Obligations.GreetingShownAfterReset
  intro c k hc hk
  obtain ⟨t, ht, -, hpos, -, hseg, -⟩ := refreshCycleIsRoundRobin (State.resetWith c) k (stateInv_resetFrom hc 0 []) rfl
  have hlit : t.pos.val = k := by
    have hlast : (State.resetWith c).pos.val = 3 := rfl
    omega
  have hzero : (State.resetWith c).windowOffset + k = k := Nat.zero_add k
  rw [hlit, hzero] at hseg
  exact ⟨t, ht, hlit, hseg.trans (congrArg (segOf c) (cell_or_blank_resetFrom c 0 [] k))⟩

/-! The registers that a terminated write leaves, from any state: how its operations proceed does not depend on what the cells hold. -/

/-- One more printable byte of an accepting write counts as far as there is room (40_bus_slave.md R102). -/
theorem deliver_sendByte_counts {s u : State} {b : Byte} (hb : 0x20 ≤ b.toNat) (hacc : u.accepting = true) (hle : u.writeIndex ≤ 50)
    (hquiet : UndisturbedWrite s u) :
    ∃ t, deliver (sendByte b) u = .next t ∧ t.accepting = true ∧ t.writeIndex = min (u.writeIndex + 1) 50 ∧ UndisturbedWrite s t := by
  rw [deliver_sendByte_char hb]
  obtain hroom | hfull := Nat.lt_or_ge u.writeIndex 50
  · exact ⟨_, exec_dataRxChar_of_room b ⟨hacc, hroom⟩, hacc, (Nat.min_eq_left hroom).symm, hquiet.stored b⟩
  · exact ⟨u, exec_dataRxChar_of_not b fun h => absurd h.2 (Nat.not_lt.mpr hfull), hacc, by omega, hquiet⟩

theorem deliverAll_sendBytes_counts {s u : State} {chars : List Byte} (hchars : ∀ b ∈ chars, 0x20 ≤ b.toNat) (hacc : u.accepting = true)
    (hle : u.writeIndex ≤ 50) (hquiet : UndisturbedWrite s u) :
    ∃ t, deliverAll (chars.map sendByte) u = .next t ∧ t.accepting = true ∧ t.writeIndex = min (u.writeIndex + chars.length) 50 ∧
      UndisturbedWrite s t := by
  induction chars generalizing u with
  | nil => exact ⟨u, rfl, hacc, (Nat.min_eq_left hle).symm, hquiet⟩
  | cons b chars ih =>
    obtain ⟨hb, hrest⟩ := List.forall_mem_cons.mp hchars
    obtain ⟨v, hv, hacc', hcount, hquiet'⟩ := deliver_sendByte_counts hb hacc hle hquiet
    obtain ⟨t, ht, hacc'', hcount', hquiet''⟩ := ih hrest hacc' (by omega) hquiet'
    have htotal : t.writeIndex = min (u.writeIndex + (b :: chars).length) 50 := by
      rw [List.length_cons]
      omega
    exact ⟨t, (deliverAll_cons_next hv).trans ht, hacc'', htotal, hquiet''⟩

/-- What the terminated write of `chars` in `s` leaves: the registers whatever the buffer's form is, and the text in a canonical buffer with the
other cells as they were (40_bus_slave.md R113). -/
structure TerminatedWrite (s : State) (chars : List Byte) (t : State) : Prop where
  length_eq : t.length = min chars.length 50
  writeIndex_eq : t.writeIndex = min chars.length 50
  rxClosed : t.rxClosed = true
  undisturbed : UndisturbedWrite s t
  written : Memory.wf s.cfg.greeting s.mem = true → ∀ i, i < min chars.length 50 → t.cell? i = chars[i]?
  unwritten : Memory.wf s.cfg.greeting s.mem = true → ∀ i, min chars.length 50 ≤ i → t.cell? i = s.cell? i

/-- A terminated write with nothing between completes from every state; what it leaves in the cells is what `terminatedWriteCompletes` states. -/
theorem deliverAll_terminatedWrite (s : State) {chars : List Byte} {d : Byte} (hchars : ∀ b ∈ chars, 0x20 ≤ b.toNat) (hd : d.toNat < 0x20) :
    ∃ t, deliverAll (sendEvent .slaW :: chars.map sendByte ++ [sendByte d]) s = .next t ∧ TerminatedWrite s chars t := by
  obtain ⟨u, hu, hacc, hcount, hquiet⟩ := deliverAll_sendBytes_counts hchars rfl (Nat.zero_le 50) (undisturbedWrite_slaW s)
  rw [Nat.zero_add] at hcount
  have hopened := (deliverAll_cons_next ((deliver_sendEvent rfl s).trans (exec_slaW s))).trans hu
  have hcommit := (deliver_sendByte_term hd u).trans (exec_dataRxTerm_of_accepting d hacc)
  have hrun := (deliverAll_append_next (ys := [sendByte d]) hopened).trans (deliverAll_cons_next hcommit)
  have hcells (hwf : Memory.wf s.cfg.greeting s.mem = true) :
      (∀ i, i < min chars.length 50 → u.cell? i = chars[i]?) ∧ ∀ i, min chars.length 50 ≤ i → u.cell? i = s.cell? i := by
    obtain ⟨t, ht, hwritten, -, -, -, -, hunwritten, -⟩ := terminatedWriteCompletes s chars d hwf hchars hd
    cases hrun.symm.trans ht
    exact ⟨hwritten, hunwritten⟩
  exact ⟨_, hrun, hcount, hcount, rfl, hquiet.committed, fun hwf => (hcells hwf).1, fun hwf => (hcells hwf).2⟩

/-! A read after a terminated write. -/

/-- `WRITEZ "s"` leaves what its terminator leaves, in `Idle`: the `STOP_RSTART` finds the write closed (40_bus_slave.md R108). -/
theorem deliverAll_writeTextZ (s : State) {chars : List Byte} (hchars : ∀ b ∈ chars, 0x20 ≤ b.toNat) :
    ∃ t, deliverAll (writeTextZ chars) s = .next (t.enter .idle) ∧ TerminatedWrite s chars t := by
  obtain ⟨t, ht, hwrite⟩ := deliverAll_terminatedWrite s hchars (d := 0x00#8) (by decide)
  have hclosed : ¬t.accepting = true := by simp [State.accepting_iff, hwrite.rxClosed]
  have hstop := (deliver_sendEvent rfl t).trans (exec_stopRstart_of_not fun h => hclosed h.2)
  have hsplit : writeTextZ chars =
      (sendEvent .slaW :: chars.map sendByte ++ [sendByte 0x00#8]) ++ [sendEvent .stopRstart] := by simp [writeTextZ]
  rw [hsplit]
  exact ⟨t, (deliverAll_append_next ht).trans (deliverAll_cons_next hstop), hwrite⟩

/-- Settles O33: the cursor is the write's count or 0, and the fetch there is an unwritten cell or the first written one. -/
theorem readAfterWriteCursor : Obligations.ReadAfterWriteCursor := by
  unfold Obligations.ReadAfterWriteCursor
  intro s chars hwf hchars
  obtain ⟨v, hv, hwrite⟩ := deliverAll_writeTextZ s hchars
  obtain ⟨-, hread⟩ := readMatchStartsTheStream
  obtain ⟨t, ht, hproto, hcursor, hfetch, -⟩ := hread (v.enter .idle)
  have hcfg : (v.enter .idle).cfg = s.cfg := hwrite.undisturbed.cfg_eq
  rw [hcfg] at hcursor
  refine ⟨t, (deliverAll_append_next hv).trans (deliverAll_cons_next ((deliver_sendEvent rfl _).trans ht)), hproto,
    fun hinherit => ?_, fun hzero => ?_⟩
  · have hindex : t.readIndex = min chars.length 50 := by
      rw [hcursor, if_neg (by simp [hinherit])]
      exact hwrite.writeIndex_eq
    refine ⟨hindex, fun hshort => ?_⟩
    rw [Nat.min_eq_left hshort.le] at hindex
    rw [hindex] at hfetch
    exact (hwrite.unwritten hwf _ (Nat.min_le_left _ _)).symm.trans (hfetch hshort).1
  · rw [if_pos hzero] at hcursor
    refine ⟨hcursor, fun hne => ?_⟩
    have hpos : 0 < min chars.length 50 := lt_min (List.length_pos_iff.mpr hne) (by decide)
    rw [hcursor] at hfetch
    exact (hwrite.written hwf 0 hpos).symm.trans (hfetch (by decide)).1

/-! A scroll operation torn by a terminated write. -/

/-- The window is wrong exactly at an offset that is not 0 and shows fewer than four characters of the text (20_memory.md R67). -/
theorem not_windowOK_iff {l w : Nat} : ¬windowOK l w ↔ w ≠ 0 ∧ l < w + 4 := by
  unfold windowOK
  omega

/-- S3, from the values sampled (42_scroll.md R161). -/
theorem deliverAll_scrollStep_of_s2 {s : State} {l w : Nat} (h : s.scroll = .s2 l w) :
    deliverAll [.scrollStep] s = .next (s.scrolledTo (scrollNext w l)) :=
  deliverAll_cons_next (x := .scrollStep) (scrollStep_of_s2 h)

/-- S2 and S3, from the length sampled (42_scroll.md R161). -/
theorem deliverAll_scrollSteps_of_s1 {s : State} {l : Nat} (h : s.scroll = .s1 l) :
    deliverAll [.scrollStep, .scrollStep] s = .next (s.scrolledTo (scrollNext s.windowOffset l)) :=
  (deliverAll_cons_next (x := .scrollStep) (scrollStep_of_s1 h)).trans (deliverAll_scrollStep_of_s2 rfl)

/-- A scroll tick with a terminated write after S1 or after S2: the write's state, with the offset that S3 computes from the old length and from
the offset that S2 sampled. The write runs from a state that differs from `s` in the scroll operation in flight. -/
theorem deliverAll_tornScrollTick {s : State} (hidle : s.scroll = .idle) {chars : List Byte} {d : Byte} (hchars : ∀ b ∈ chars, 0x20 ≤ b.toNat)
    (hd : d.toNat < 0x20) {k : Nat} (hk : k = 1 ∨ k = 2) :
    ∃ c v, TerminatedWrite { s with scroll := c } chars v ∧
      deliverAll (tornAt k (sendEvent .slaW :: chars.map sendByte ++ [sendByte d]) scrollTick) s =
        .next (v.scrolledTo (scrollNext (if k = 2 then s.windowOffset else 0) s.length)) := by
  have hs1 := (deliver_sendEvent rfl s).trans (exec_tickScroll_of_idle hidle)
  obtain rfl | rfl := hk
  · obtain ⟨v, hv, hwrite⟩ := deliverAll_terminatedWrite { s with scroll := .s1 s.length } hchars hd
    obtain ⟨-, hflight⟩ := hwrite.undisturbed.flight
    have hrest := deliverAll_scrollSteps_of_s1 hflight
    rw [hwrite.undisturbed.windowOffset_eq] at hrest
    exact ⟨_, v, hwrite, (deliverAll_cons_next hs1).trans ((deliverAll_append_next hv).trans hrest)⟩
  · obtain ⟨v, hv, hwrite⟩ := deliverAll_terminatedWrite { s with scroll := .s2 s.length s.windowOffset } hchars hd
    obtain ⟨-, hflight⟩ := hwrite.undisturbed.flight
    have hrest := (deliverAll_append_next hv).trans (deliverAll_scrollStep_of_s2 hflight)
    exact ⟨_, v, hwrite,
      (deliverAll_cons_next hs1).trans ((deliverAll_cons_next (x := .scrollStep) (scrollStep_of_s1 rfl)).trans hrest)⟩

/-- Settles O53: the torn tick leaves the write's text under the old offset's successor, and a whole tick mends the window from there. -/
theorem tornScrollBreaksTheWindow : Obligations.TornScrollBreaksTheWindow := by
  unfold Obligations.TornScrollBreaksTheWindow
  intro s chars d k hidle hchars hd hk
  obtain ⟨c, v, hwrite, hrun⟩ := deliverAll_tornScrollTick hidle hchars hd hk
  exact ⟨_, _, hrun, rfl, hwrite.length_eq, rfl, hwrite.written, not_windowOK_iff, deliverAll_scrollTick rfl, rfl, rfl,
    windowOK_scrollNext _ _⟩

end Sys2Proof.Machine
end

section
/-! PROOF. The opcode table's word presented to the machine, the values a reset leaves, and the front end's own address (20_memory.md R60,
10_state.md R39, 70_reset_and_hazards.md R210, 40_bus_slave.md R121). -/

namespace Sys2Proof

/-- A number is an event word exactly when its bits lie below bit 18, and then it is decoded as that word (30_encoding.md R81, R85). -/
theorem decodeNat_eq_ok_iff {w : Nat} {i : Instr} : decodeNat w = .ok i ↔ w < 2 ^ 18 ∧ decode (BitVec.ofNat 18 w) = i := by
  unfold decodeNat
  split_ifs with hw
  · simp only [Except.ok.injEq, hw, true_and]
  · exact ⟨nofun, fun h => absurd h.1 hw⟩

theorem decodeTableWord_eq_some_iff {nbits w : Nat} {i : Instr} :
    decodeTableWord nbits w = some i ↔ decodeNat (w % 2 ^ nbits) = .ok i := by
  unfold decodeTableWord
  cases decodeNat (w % 2 ^ nbits) <;> simp

end Sys2Proof

namespace Sys2Proof.Machine

/-! A presented word. -/

/-- An event word presented is the first choice of the schedule, before those that wait (log entry 5). -/
theorem State.present_of_lt (s : State) {nbits w : Nat} (h : w % 2 ^ nbits < 2 ^ 18) :
    s.present nbits w = { s with inputs := .event (BitVec.ofNat 18 (w % 2 ^ nbits)) :: s.inputs } := if_pos h

/-- Settles O6: a word that the table's decoder reads is put on the schedule, and the step takes it off again and runs it. -/
theorem presentedWordRunsNext : Obligations.PresentedWordRunsNext := by
  unfold Obligations.PresentedWordRunsNext
  intro s nbits w i h
  obtain ⟨hlt, hdecode⟩ := decodeNat_eq_ok_iff.mp (decodeTableWord_eq_some_iff.mp h)
  rw [State.withFetchWord, State.present_of_lt s hlt, step_scheduled rfl, deliver_event, hdecode]

/-! What a reset leaves. -/

theorem State.cell?_resetFrom_of_greeting {c : Config} {i : Nat} {b : Byte} (hi : i < 50) (hb : c.greeting[i]? = some b) (n : Nat)
    (xs : List Input) : (State.resetFrom c n xs).cell? i = some b := by
  rw [State.cell?_of_lt _ hi, State.cell_resetFrom, hb, Option.getD_some]

theorem State.cell?_resetFrom_of_length_le {c : Config} {i : Nat} (hle : c.greeting.length ≤ i) (hi : i < 50) (n : Nat) (xs : List Input) :
    (State.resetFrom c n xs).cell? i = some (Config.freeCell n i) := by
  rw [State.cell?_of_lt _ hi, State.cell_resetFrom, List.getElem?_eq_none hle, Option.getD_none]

/-- Settles O10, from the two kinds of cell and the fields of a reset state. -/
theorem resetStateValues : Obligations.ResetStateValues := by
  unfold Obligations.ResetStateValues
  intro c
  refine ⟨fun i b hi hb => State.cell?_resetFrom_of_greeting hi hb 0 [],
    fun i hle hi => State.cell?_resetFrom_of_length_le hle hi 0 [], ?_⟩
  simp [State.resetWith]

/-- A second `RESET` draws new free values for `txData` and the unspecified cells, and changes nothing else (70_reset_and_hazards.md R210). -/
theorem exec_reset_resetFrom (c : Config) (n : Nat) (xs : List Input) :
    exec .reset (State.resetFrom c n xs) =
      .next { State.resetFrom c n xs with txData := Config.freeByte (n + 1), epoch := n + 1, draws := n + 2 } := rfl

/-- Settles O11: what `RESET` answers is a reset state of the same configuration and schedule, whose free values are the next draw's. -/
theorem resetEventRestartsTheBlock : Obligations.ResetEventRestartsTheBlock := by
  unfold Obligations.ResetEventRestartsTheBlock
  refine ⟨by decide, fun s => ⟨State.resetFrom s.cfg s.draws s.inputs, rfl,
    fun i b hi hb => State.cell?_resetFrom_of_greeting hi hb s.draws s.inputs,
    fun i hle hi => State.cell?_resetFrom_of_length_le hle hi s.draws s.inputs, ?_⟩⟩
  simp [SameSetting, exec_reset_resetFrom]

/-! The front end's own address. -/

theorem addressMatch_of_ne {c : Config} {b : Byte} (h : b.extractLsb' 1 7 ≠ c.slaveAddr) : addressMatch c b = false := by
  simp [addressMatch, h]

/-- Settles O58, by whether the address byte names the slave and whether its bit 0 asks for a read. -/
theorem frontEndMatchesItsAddress : Obligations.FrontEndMatchesItsAddress := by
  unfold Obligations.FrontEndMatchesItsAddress
  intro c b hne
  refine ⟨fun haddr hwrite => ?_, fun haddr hread => ?_, fun hother => ?_⟩
  · have hmatch := addressMatch_of_slaveAddr hne haddr
    have hreads : addressReads b = false := hwrite
    simp [frontEvent, frontNext, frontAcks, hmatch, hreads]
  · have hmatch := addressMatch_of_slaveAddr hne haddr
    have hreads : addressReads b = true := hread
    simp [frontEvent, frontNext, frontAcks, hmatch, hreads]
  · have hmiss := addressMatch_of_ne hother
    simp [frontEvent, frontNext, frontAcks, hmiss]

end Sys2Proof.Machine
end
